-- ==== Sys2Proof/Word.lean ====
section
/-! DEFINITION. The plain number and pair types of the part: bytes, unit, head, zone and entry numbers, and a value
kept once for each drive unit. -/

namespace Sys2Proof

/-- One byte of a sector (R33, R177). -/
abbrev Byte := BitVec 8

/-- A drive unit, 0 or 1 (00_scope.md section 6). -/
abbrev UnitNo := Fin 2

/-- A head, 0 to 15. -/
abbrev HeadNo := Fin 16

/-- A zone, 0 to 3. -/
abbrev ZoneNo := Fin 4

/-- The index of a head-map entry, 0 to 127, in map order (R1). -/
abbrev EntryNo := Fin 128

/-- A value kept once for unit 0 and once for unit 1. -/
structure PerUnit (α : Type) where
  u0 : α
  u1 : α
  deriving DecidableEq, Repr

/-- The value of unit `u`. -/
def PerUnit.get {α : Type} (p : PerUnit α) (u : UnitNo) : α := if u = 0 then p.u0 else p.u1

/-- `p` with unit `u`'s value replaced. -/
def PerUnit.set {α : Type} (p : PerUnit α) (u : UnitNo) (a : α) : PerUnit α :=
  if u = 0 then { p with u0 := a } else { p with u1 := a }

end Sys2Proof
end

