-- ==== Sys2Proof/Syntax.lean ====
section
/-! DEFINITION. The commands the part takes, one constructor per row of spec/opcode_table.json, with the records they
carry: task records (R28) and completion records (R37). -/

namespace Sys2Proof

/-- The ops of the drive link (R28). -/
inductive Op where
  | read | readRaw | verify | write | seek | home | setGeometry | setOption
  | spinUp | spinDown | powerQuery | identify
  deriving DecidableEq, Repr

/-- The two addressing forms (R28). -/
inductive Addressing where
  | chs | linear
  deriving DecidableEq, Repr

/-- The fields of a task record other than its op (R28). A field that the op does not use is carried and ignored. -/
structure TaskFields where
  unit : UnitNo
  addressing : Addressing := .chs
  cylinder : Nat := 0
  head : HeadNo := 0
  sector : Nat := 1
  linear : Nat := 0
  count : Nat := 1
  offset : Int := 0
  retryOn : Bool := false
  headsOperand : Nat := 0
  sectorsOperand : Nat := 0
  optionCode : Nat := 0
  optionValue : Nat := 0
  deriving DecidableEq, Repr

/-- A task record (R28). -/
structure Task where
  op : Op
  fields : TaskFields
  deriving DecidableEq, Repr

/-- A cylinder, head and sector. The head of a last address reaches 255 (R37), so it is a plain number. -/
structure Chs where
  cylinder : Nat
  head : Nat
  sector : Nat
  deriving DecidableEq, Repr

/-- The error kinds of a completion record (R37). -/
inductive ErrorKind where
  | addressMark | noSector | data | trackZero | writeFault | refused | aborted
  deriving DecidableEq, Repr

/-- The status of a completion; the kind is present with ERROR only (R37). -/
inductive Status where
  | good
  | error (kind : ErrorKind)
  deriving DecidableEq, Repr

/-- The answer of POWER QUERY (R37). -/
inductive PowerValue where
  | spinning | stopped
  deriving DecidableEq, Repr

/-- A completion record (R37). -/
structure Completion where
  status : Status
  corrected : Bool := false
  remaining : Nat := 0
  last : Chs
  power : Option PowerValue := none
  deriving DecidableEq, Repr

/-- What the part finds on a unit's own handshake (R25): its drive shows ready, or shows not ready, or no drive is
attached, so that a task issued to the unit is not answered. -/
inductive DriveShows where
  | ready | notReady | absent
  deriving DecidableEq, Repr

/-- A change of a unit's handshake (R25). The table's event is `ready`: a drive that was not ready shows ready. The other
two say that a drive is starting after its own power-up, and that no drive is attached (DESIGN CHOICE, log 7). -/
structure DriveChange where
  unit : UnitNo
  shows : DriveShows := .ready
  deriving DecidableEq, Repr

/-- A bench abort (R38): its time; whether the bytes of the next sector of a LOCAL answer, or of an issued WRITE, are
already moving then (R38, R175; DESIGN CHOICE, log 24, 29); and whether it reached a LOCAL VERIFY before its completion record began to go out, that is, still in
LOCAL (R171, R175; DESIGN CHOICE, log 27). -/
structure AbortMoment where
  time : Nat
  moving : Bool := false
  beforeRecord : Bool := false
  deriving DecidableEq, Repr

/-- The end of a piece (R118): the drive's completion record, and whether a bench abort reaches the sequencer behind it,
before the next piece is issued, with no piece in flight (R126; DESIGN CHOICE, log 26). -/
structure PieceEnd where
  completion : Completion
  abortBehind : Bool := false
  deriving DecidableEq, Repr

/-- The commands. `t` is the time in microseconds since power-on at which the part takes the command. -/
inductive Instr where
  /-- POWER_ON (R187): the straps as fitted; a fitted strap pin reads as 1 (R186). -/
  | powerOn (transparent : Bool) (service : BitVec 8)
  /-- POWER_ON_INTERVAL_END (R187). -/
  | powerOnIntervalEnd (t : Nat)
  /-- READ (R106). -/
  | read (t : Nat) (f : TaskFields)
  /-- READ RAW (R106). -/
  | readRaw (t : Nat) (f : TaskFields)
  /-- VERIFY (R106). -/
  | verify (t : Nat) (f : TaskFields)
  /-- WRITE (R107). -/
  | write (t : Nat) (f : TaskFields)
  /-- SEEK (R108). -/
  | seek (t : Nat) (f : TaskFields)
  /-- HOME (R108). -/
  | home (t : Nat) (f : TaskFields)
  /-- SET GEOMETRY (R108). -/
  | setGeometry (t : Nat) (f : TaskFields)
  /-- SET OPTION (R108). -/
  | setOption (t : Nat) (f : TaskFields)
  /-- SPIN UP (R122). -/
  | spinUp (t : Nat) (f : TaskFields)
  /-- SPIN DOWN (R122). -/
  | spinDown (t : Nat) (f : TaskFields)
  /-- POWER QUERY (R108). -/
  | powerQuery (t : Nat) (f : TaskFields)
  /-- IDENTIFY (R108). -/
  | identify (t : Nat) (f : TaskFields)
  /-- A drive that was not ready shows ready, or another change of a unit's handshake (R25). -/
  | driveReady (t : Nat) (u : DriveChange)
  /-- A drive delivers a sector of a bench task (R25). -/
  | driveSectorDelivered (t : Nat) (bytes : List Byte)
  /-- A drive delivers a sector of a point task (R60). -/
  | comparatorSector (t : Nat) (bytes : List Byte)
  /-- The bench delivers a WRITE sector (R157). -/
  | benchWriteSector (t : Nat) (bytes : List Byte)
  /-- The bench takes a sector of a LOCAL answer (R171). -/
  | localSectorTaken (t : Nat)
  /-- The drive's completion of a whole bench task arrives (R131). -/
  | benchTaskCompletion (t : Nat) (c : Completion)
  /-- The drive's completion of a piece arrives (R118, R126). -/
  | pieceCompletion (t : Nat) (c : PieceEnd)
  /-- The bench takes the completion record (R27). -/
  | benchTakesCompletion (t : Nat)
  /-- The bench asserts its abort line (R38). -/
  | benchAbort (t : AbortMoment)
  /-- The bench asserts cable reset (R40). -/
  | cableReset (t : Nat)
  /-- The bench releases cable reset (R26). -/
  | cableResetRelease (t : Nat)
  /-- The lay WRITE completes (R54). -/
  | layCompletion (t : Nat) (c : Completion)
  /-- A point task completes (R61). -/
  | pointCompletion (t : Nat) (c : Completion)
  /-- A completion arrives for a task in ABORTING (R138). -/
  | abortingCompletion (t : Nat) (c : Completion)
  /-- A left-over task completes (R98). -/
  | leftOverCompletion (t : Nat) (c : Completion)
  /-- A late completion of the open task arrives in WEDGED (R140). -/
  | lateCompletion (t : Nat) (c : Completion)
  /-- A sweep task reaches its expiry time (R137). -/
  | taskExpiry (t : Nat)
  /-- The second expiry passes (R139). -/
  | secondExpiry (t : Nat)
  /-- A grace expires (R133). -/
  | graceExpiry (t : Nat)
  /-- An index pulse of unit `u` (R144). -/
  | indexPulse (t : Nat) (u : UnitNo)
  /-- The stop timer of unit `u` expires (R145). -/
  | stopTimerExpiry (t : Nat) (u : UnitNo)
  /-- A whole second (R15). -/
  | secondMark (t : Nat)
  /-- The raw HOLD line takes a level; `low` is pressed (R185). -/
  | holdLineChange (t : Nat) (low : Bool)
  /-- The debounce timer reaches 20 ms (R185). -/
  | holdDebounceExpiry (t : Nat)
  /-- A 500 ms edge of the READY blink (R183). -/
  | readyBlinkEdge (t : Nat)
  /-- The 2 µs SWMARK gap ends (R182). -/
  | swmarkGapEnd (t : Nat)
  /-- The 10 µs SWMARK pulse ends (R182). -/
  | swmarkPulseEnd (t : Nat)
  deriving DecidableEq, Repr

end Sys2Proof
end

