-- ==== Sys2Proof/Decode.lean ====
section
/-! DEFINITION. The command a word spells by the table's bits. No row of spec/opcode_table.json gives bits (every row's
list of fields is empty and none has fixed bits), so no word spells a command. -/

namespace Sys2Proof

/-- The command spelled by the `nbits` low bits of `w`: none, since no row of the table gives bits. -/
def decodeTableWord (_nbits _w : Nat) : Option Instr := none

end Sys2Proof
end

