-- ==== Sys2Proof/Config.lean ====
section
/-! DEFINITION. The part's fixed numbers: capacities, signatures and times. Times are in microseconds. The spec leaves
no value of a result open, so there is no free value here (INVENTORY.md, What the manual leaves open). -/

namespace Sys2Proof.Config

/-- R42: the sweep queue holds at most 16 records. -/
def queueCapacity : Nat := 16

/-- R100: the result log holds at most 30 records. -/
def logCapacity : Nat := 30

/-- One millisecond in microseconds. -/
def ms : Nat := 1000

/-- R187: the power-on interval, 200 ms. -/
def powerOnInterval : Nat := 200 * ms

/-- R185: the HOLD debounce, 20 ms. -/
def debounce : Nat := 20 * ms

/-- R183: half a blink, 500 ms. -/
def blinkHalf : Nat := 500 * ms

/-- R15: one second. -/
def second : Nat := 1000 * ms

/-- R182: the low gap between back-to-back sweeps, 2 µs. -/
def swmarkGap : Nat := 2

/-- R182: the POINT-mode pulse, 10 µs. -/
def swmarkPulse : Nat := 10

/-- R137: the unit of the task timeout, 10 ms. -/
def timeoutUnit : Nat := 10 * ms

/-- R143: a pulse closer than this to the last accepted one is ignored. -/
def pulseFilter : Nat := 1000

/-- R144: the longest period recorded. -/
def maxPeriod : Nat := 2000000

/-- R144: the stability allowance is the period divided by this. -/
def stabilityDivisor : Nat := 128

/-- R145: the stop timer while no period is known, 500 ms. -/
def stopTimerNoPeriod : Nat := 500 * ms

/-- R152: the window of STOPPING, 2000 ms. -/
def stoppingWindow : Nat := 2000 * ms

/-- R178: the plan signature, two words. -/
def planSignature : Nat × Nat := (22600, 16724)

/-- R179: the report signature, two words. -/
def reportSignature : Nat × Nat := (22600, 21061)

/-- R33: the data bytes of a sector. -/
def sectorBytes : Nat := 512

/-- R61: what an undelivered sector counts. -/
def undeliveredBits : Nat := 4096

end Sys2Proof.Config
end

