-- ==== Sys2Proof/Machine/State.lean ====
section
/-! DEFINITION. The state of the part, as plain data, block by block (00_scope.md section 3), the two faults and the
refusal, and the state after reset. -/

namespace Sys2Proof.Machine

/-! ### Head map (chapter 1) -/

/-- The states of an entry (R4). -/
inductive EntryState where
  | unmeasured | measuring | valid | marginal | suspect | stale | failed
  deriving DecidableEq, Repr

/-- Which edges of an opening lay at the end of the offset range (R2, R82). -/
inductive Clip where
  | none | low | high | both
  deriving DecidableEq, Repr

/-- The queue causes (R43). -/
inductive Cause where
  | plan | drift | age | spinUp | retry | resume
  deriving DecidableEq, Repr

/-- The thirteen sweep outcomes (R2). -/
inductive SweepOutcome where
  | committed | marginal | confirmed | jump | failedJump | noOpening | layFailed | timeout
  | abortedSpindle | abortedSpinDown | abortedPattern | abortedReset | abortedPlan
  deriving DecidableEq, Repr

/-- A head-map entry with its power-on values (R2). -/
structure Entry where
  state : EntryState := .unmeasured
  centre : Option Int := none
  candidate : Option Int := none
  width : Nat := 0
  clipped : Clip := .none
  laid : Bool := false
  drift : Nat := 0
  retries : Nat := 0
  age : Nat := 0
  wanted : Option Cause := none
  lastOutcome : Option SweepOutcome := none
  deriving DecidableEq, Repr

/-! ### Bench slot (chapters 2 and 6) -/

/-- A piece of a SPLIT task (R116). -/
structure Piece where
  start : Chs
  count : Nat
  entry : EntryNo
  inScope : Bool
  deriving DecidableEq, Repr

/-- The piece sequencer's list, cursor (index of the next piece to issue) and outstanding count (R116), with the OR of
the corrected fields reported so far (R118). -/
structure Sequencer where
  pieces : List Piece
  cursor : Nat
  outstanding : Nat
  corrected : Bool
  deriving DecidableEq, Repr

/-- The dispositions (R105): APPLY with its entry, SPLIT with its sequencer, LOCAL with the service-area sector numbers
it delivers, SNOOP with the place of the plan sector in the write. -/
inductive Disposition where
  | pass
  | apply (e : EntryNo)
  | split (q : Sequencer)
  | localAnswer (sectors : List Nat)
  | snoop (place : Nat)
  deriving DecidableEq, Repr

/-- The occupied states of the bench slot (R26); the completion record on its way is held in COMPLETING. -/
inductive SlotPhase where
  | disposing | localAnswer | waiting | issued
  | completing (c : Completion)
  deriving DecidableEq, Repr

/-- The bench task in the slot: its record, disposition, slot state, the sectors passed so far, whether the bench's
abort has been forwarded (R125) or has stopped the piece list (R126), and whether one sector of a WRITE, its bytes moving
when the abort was forwarded, is still to be finished (R38; DESIGN CHOICE, log 29). -/
structure BenchTask where
  task : Task
  disp : Disposition := .pass
  phase : SlotPhase := .disposing
  passed : Nat := 0
  abort : Bool := false
  finishing : Bool := false
  deriving DecidableEq, Repr

/-- The learned geometry of a unit (R109). -/
structure Geometry where
  heads : Nat
  sectors : Nat
  deriving DecidableEq, Repr

/-- The six 32-bit wrapping counters (R127, R86). -/
structure Counters where
  passed : BitVec 32 := 0
  applied : BitVec 32 := 0
  split : BitVec 32 := 0
  localAnswers : BitVec 32 := 0
  untranslated : BitVec 32 := 0
  sweepsEnded : BitVec 32 := 0
  deriving DecidableEq, Repr

/-- The five pass-through counters by name (R127). -/
inductive CounterName where
  | passed | applied | split | localAnswers | untranslated
  deriving DecidableEq, Repr

/-! ### Plans (chapter 9) -/

/-- The walk orders (R57). -/
inductive Order where
  | ascending | descending | centreOut
  deriving DecidableEq, Repr

/-- The SWMARK modes (R182). -/
inductive SwmarkMode where
  | off | sweep | point
  deriving DecidableEq, Repr

/-- A row of the zone table (R178). -/
structure ZoneRow where
  firstCylinder : Nat
  testCylinder : Nat
  firstSector : Nat
  sectorCount : Nat
  deriving DecidableEq, Repr

/-- The action set (R168). -/
structure Actions where
  clearMap : Bool := false
  queueAll : Bool := false
  hold : Bool := false
  release : Bool := false
  deriving DecidableEq, Repr

/-- A plan (R161, R170). `offset1`, `offset2` are O1 and O2; `benchGrace` is G in ms; the default values are the
default plan's (R170). -/
structure Plan where
  number : Nat := 0
  actions : Actions := {}
  unitMask : PerUnit Bool := ⟨false, false⟩
  headMask : PerUnit (BitVec 16) := ⟨0, 0⟩
  zoneCount : Nat := 1
  order : Order := .ascending
  mirror : Bool := false
  passes : Nat := 1
  step : Nat := 4
  offset1 : Int := -64
  offset2 : Int := 64
  minWidth : Nat := 4
  threshold : Nat := 16
  maxMove : Nat := 16
  driftLimit : Nat := 32
  pattern : Nat := 0
  settleCount : Nat := 8
  maxAge : Nat := 0
  taskTimeout : Nat := 50
  benchGrace : Nat := 20
  graceLimit : Nat := 4
  swmarkMode : SwmarkMode := .off
  zones : Vector ZoneRow 4 := #v[⟨0, 0, 1, 1⟩, ⟨0, 0, 0, 0⟩, ⟨0, 0, 0, 0⟩, ⟨0, 0, 0, 0⟩]
  deriving DecidableEq, Repr

/-- The results of a judgement (R156, R163). -/
inductive PlanResult where
  | none | taken | takenClamped | refused | ignored
  deriving DecidableEq, Repr

/-- The refusal causes (R160, R162). -/
inductive RefusalCause where
  | check | range | zones | testcyl | count
  deriving DecidableEq, Repr

/-- The last plan event (R156). -/
structure PlanEvent where
  number : Nat := 0
  result : PlanResult := .none
  cause : Option RefusalCause := none
  deriving DecidableEq, Repr

/-- Plan intake's copy of the plan sector (R157). -/
structure Copy where
  bytes : List Byte := []
  complete : Bool := false
  deriving DecidableEq, Repr

/-! ### Sweeps (chapters 3 to 5) -/

/-- A record of the sweep queue (R42). -/
structure QueueRec where
  entry : EntryNo
  cause : Cause
  deriving DecidableEq, Repr

/-- What a sweep task serves: the lay, or a point index (R50). -/
inductive FlightKind where
  | lay
  | point (i : Nat)
  deriving DecidableEq, Repr

/-- The task in flight (R50). -/
structure Flight where
  task : Task
  kind : FlightKind
  delivered : Nat
  tally : Nat
  deriving DecidableEq, Repr

/-- The phase of a running sweep (R50); the third phase, IDLE, is the absence of a context. -/
inductive SweepPhase where
  | laying | sweeping
  deriving DecidableEq, Repr

/-- The sweep context (R50). -/
structure Context where
  phase : SweepPhase
  subject : EntryNo
  cause : Cause
  priorState : EntryState
  priorCentre : Option Int
  priorCandidate : Option Int
  testCylinder : Nat
  firstSector : Nat
  sectorCount : Nat
  offset1 : Int
  offset2 : Int
  step : Nat
  points : Nat
  order : Order
  mirror : Bool
  passes : Nat
  threshold : Nat
  minWidth : Nat
  maxMove : Nat
  pattern : Nat
  taskTimeout : Nat
  pass : Nat
  position : Nat
  sums : List Nat
  flight : Option Flight
  deriving DecidableEq, Repr

/-- The quality of a fit (R82). -/
inductive Quality where
  | valid | marginal
  deriving DecidableEq, Repr

/-- What a fit that found an opening gives (R70). -/
structure Opening where
  edgeL : Int
  edgeR : Int
  centre : Int
  width : Nat
  clipped : Clip
  quality : Quality
  deriving DecidableEq, Repr

/-- The outcomes of a fit that found an opening (R83). -/
inductive FitOutcome where
  | committed | marginal | confirmed | jump | failedJump
  deriving DecidableEq, Repr

/-- A fit result (R70); its curve is the context's (R103). -/
inductive FitResult where
  | noOpening
  | found (o : Opening) (k : FitOutcome)
  deriving DecidableEq, Repr

/-- The ways a sweep ends (R85), ABORTED_PLAN in its two ways (R94). -/
inductive Ending where
  | fit (r : FitResult)
  | layFailed | timeout
  | abortedSpindle | abortedSpinDown | abortedPattern | abortedReset
  | abortedPlanClear | abortedPlanScope
  deriving DecidableEq, Repr

/-- A result record (R101). -/
structure ResultRec where
  seq : BitVec 16
  entry : EntryNo
  cause : Cause
  outcome : SweepOutcome
  points : Nat
  opening : Option Opening
  deriving DecidableEq, Repr

/-- The last curve (R103): pairs of an offset and its point sum. -/
structure Curve where
  points : List (Int × Nat) := []
  seq : BitVec 16 := 0
  deriving DecidableEq, Repr

/-! ### Port arbiter (chapter 7) -/

/-- What the part keeps of a left-over lay WRITE to go on supplying its sectors (R98). -/
structure LaySupply where
  unit : UnitNo
  head : HeadNo
  cylinder : Nat
  firstSector : Nat
  sectorCount : Nat
  pattern : Nat
  deriving DecidableEq, Repr

/-- Whose the sweep task on the port is (R128). -/
inductive Owner where
  | running
  | leftOver (lay : Option LaySupply)
  deriving DecidableEq, Repr

/-- The port states with what is held with each (R128). `timeout` is the task timeout of the task (units of 10 ms),
from which the second expiry follows (R137). Times are in microseconds. -/
inductive PortState where
  | free (grace : Option Nat)
  | bench (u : UnitNo)
  | sweep (u : UnitNo) (owner : Owner) (expiry : Nat) (timeout : Nat)
  | aborting (u : UnitNo) (owner : Owner) (expiry : Nat)
  | wedged (u : UnitNo) (lay : Option LaySupply)
  deriving DecidableEq, Repr

/-- The record granted on the drive side and whether its TASK phase has opened (R25). -/
structure DriveTask where
  task : Task
  opened : Bool
  deriving DecidableEq, Repr

/-- The port record (R128) with the drive-side abort line. -/
structure Port where
  state : PortState := .free none
  graceRun : Nat := 0
  abort : Bool := false
  task : Option DriveTask := none
  deriving DecidableEq, Repr

/-! ### Spindle monitors (chapter 8) -/

/-- The states of a monitor (R142). -/
inductive SpindleState where
  | unknown | spinningUp | settled | stopping | stopped
  deriving DecidableEq, Repr

/-- A monitor record with its power-on values (R142). Times are in microseconds. -/
structure Monitor where
  state : SpindleState := .unknown
  lastPulse : Option Nat := none
  lastPeriod : Option Nat := none
  stable : Nat := 0
  stopRemembered : Bool := false
  stoppingSince : Option Nat := none
  stopTimer : Option Nat := none
  deriving DecidableEq, Repr

/-! ### Lines and straps (chapter 11) -/

/-- The latched straps (R186). -/
structure Straps where
  transparent : Bool := false
  service : BitVec 8 := 0
  deriving DecidableEq, Repr

/-- The HOLD input: raw level, debounced state, debounce timer (R185). -/
structure HoldLine where
  rawLow : Bool := false
  asserted : Bool := false
  timer : Option Nat := none
  deriving DecidableEq, Repr

/-- The SWMARK line with the end of a running gap and of a running pulse (R182). -/
structure Swmark where
  level : Bool := false
  gapEnd : Option Nat := none
  pulseEnd : Option Nat := none
  deriving DecidableEq, Repr

/-- The blink of the sweep in progress: lit or dark, and its next 500 ms edge (R183). -/
structure Blink where
  lit : Bool
  next : Nat
  deriving DecidableEq, Repr

/-- The handshake and the four lamps (R26, R183, R184). -/
structure Pins where
  benchReady : Bool := false
  readyLamp : PerUnit Bool := ⟨false, false⟩
  faultLamp : PerUnit Bool := ⟨false, false⟩
  deriving DecidableEq, Repr

/-! ### Report snapshot (chapter 10) -/

/-- What a snapshot shows of one unit (R173, R179). -/
structure UnitView where
  spindle : SpindleState
  lastPeriod : Option Nat
  geometry : Option Geometry
  wedged : Bool
  deriving DecidableEq, Repr

/-- What a snapshot shows of a running sweep (R68). -/
structure EngineView where
  phase : SweepPhase
  subject : EntryNo
  cause : Cause
  pass : Nat
  point : Nat
  deriving DecidableEq, Repr

/-- What a snapshot shows of the port state (R128, R179). -/
inductive PortView where
  | free
  | bench (u : UnitNo)
  | sweep (u : UnitNo)
  | aborting (u : UnitNo)
  | wedged (u : UnitNo)
  deriving DecidableEq, Repr

/-- A snapshot (R173). -/
structure Snapshot where
  timeBase : Nat
  planNumber : Nat
  planEvent : PlanEvent
  holdLine : Bool
  holdPlan : Bool
  service : BitVec 8
  units : PerUnit UnitView
  engine : Option EngineView
  port : PortView
  graceRun : Nat
  counters : Counters
  queue : List QueueRec
  entries : Vector Entry 128
  curve : Curve
  log : List ResultRec
  deriving DecidableEq, Repr

/-! ### The whole state -/

/-- The state of the part. Each field's rule and reset value is in INVENTORY.md. -/
structure State where
  /-- The commands waiting, first in first out (the model's own). -/
  pending : List Instr
  /-- Microseconds since power-on (time base, R187). -/
  now : Nat
  /-- Whole-second marks taken (R15). -/
  seconds : Nat
  /-- Whether the power-on interval is running (R187). -/
  interval : Bool
  straps : Straps
  /-- Level of the cable reset line (R39, R40). -/
  cableReset : Bool
  /-- What each unit's own handshake shows (R25; DESIGN CHOICE at reset, log 7). -/
  driveShows : PerUnit DriveShows
  /-- The index pulse last passed to the bench connector (R41): an output latch (DESIGN CHOICE, log 18). -/
  indexOut : Option (UnitNo × Nat)
  /-- Task records held at the start of their TASK phase (R26; DESIGN CHOICE, log 10: in order). -/
  presented : List Task
  /-- The bench slot; `none` is EMPTY (R26). -/
  slot : Option BenchTask
  /-- The sector last passed to the bench: an output latch (DESIGN CHOICE, log 18). -/
  benchData : List Byte
  /-- The sector last passed to the drive: an output latch (DESIGN CHOICE, log 18). -/
  driveData : List Byte
  counters : Counters
  geometry : PerUnit (Option Geometry)
  entries : Vector Entry 128
  queue : List QueueRec
  /-- The sweep engine; `none` is IDLE (R50). -/
  engine : Option Context
  log : List ResultRec
  nextSeq : BitVec 16
  curve : Curve
  port : Port
  plan : Plan
  planEvent : PlanEvent
  copy : Copy
  /-- The snapshot number; 0 is the empty snapshot (R173, R174). -/
  snapNumber : Nat
  snapshot : Option Snapshot
  monitors : PerUnit Monitor
  holdLine : HoldLine
  /-- The plan part of the hold condition (R168). -/
  planHold : Bool
  swmark : Swmark
  blink : Option Blink
  pins : Pins
  deriving DecidableEq, Repr

/-- Why the part stops. Both stop an event that the link cannot produce at that moment and to which the spec gives no
effect; both are safe (the model stops where it says nothing of the hardware). -/
inductive Fault where
  /-- Raised by DRIVE_SECTOR_DELIVERED, COMPARATOR_SECTOR and the completion commands when the part has no task of that
  kind open on the drive side (DESIGN CHOICE, log 6). Safe. -/
  | noOpenTask
  /-- Raised by BENCH_WRITE_SECTOR, LOCAL_SECTOR_TAKEN and BENCH_TAKES_COMPLETION when the part offers the bench no such
  transfer (DESIGN CHOICE, log 6). Safe. -/
  | noBenchTransfer
  deriving DecidableEq, Repr

/-- Why a command has no meaning. Every row of the table has its meaning, so no command answers with it. -/
inductive Refusal where
  /-- Raised by exec's arm of a command that has no meaning yet (no arm, at present). Safe. -/
  | notModelled (mnemonic : String)
  deriving DecidableEq, Repr

/-- The machine right after power-on with no strap fitted (R187, R186) and its input lines at rest (DESIGN CHOICE, log
7, 8, 9): every field at the power-on value its chapter gives (INVENTORY.md lists them). -/
def State.reset : State where
  pending := []
  now := 0
  seconds := 0
  interval := true
  straps := {}
  cableReset := false
  driveShows := ⟨.ready, .ready⟩
  indexOut := none
  presented := []
  slot := none
  benchData := []
  driveData := []
  counters := {}
  geometry := ⟨none, none⟩
  entries := Vector.replicate 128 {}
  queue := []
  engine := none
  log := []
  nextSeq := 0
  curve := {}
  port := {}
  plan := {}
  planEvent := {}
  copy := {}
  snapNumber := 0
  snapshot := none
  monitors := ⟨{}, {}⟩
  holdLine := {}
  planHold := false
  swmark := {}
  blink := none
  pins := {}

end Sys2Proof.Machine
end

