-- ==== Sys2Proof/Machine/Bytes.lean ====
section
/-! DEFINITION. Bytes of sectors: the byte order of fields (R177) and of words (R33), and counting differing bits
(R60). -/

namespace Sys2Proof.Machine

/-- A one-byte field. -/
def byte (n : Nat) : Byte := BitVec.ofNat 8 n

/-- A two-byte field, lowest byte first (R177). -/
def le16 (n : Nat) : List Byte := [byte n, byte (n / 256)]

/-- A four-byte field, lowest byte first (R177). -/
def le32 (n : Nat) : List Byte := le16 n ++ le16 (n / 65536)

/-- A signed one-byte field, two's complement (R177). -/
def signedByte (i : Int) : Byte := BitVec.ofInt 8 i

/-- A signed two-byte field, two's complement, lowest byte first (R177). -/
def signed16 (i : Int) : List Byte := le16 (BitVec.ofInt 16 i).toNat

/-- A flag as a bit value. -/
def bit (b : Bool) (weight : Nat) : Nat := if b then weight else 0

/-- `n` padding bytes (R177). -/
def zeros (n : Nat) : List Byte := List.replicate n 0

/-- `bytes` brought to `n` bytes with padding behind. -/
def padTo (n : Nat) (bytes : List Byte) : List Byte := bytes ++ zeros (n - bytes.length)

/-- The byte at offset `i` of a sector. -/
def byteAt (b : List Byte) (i : Nat) : Nat := (b.getD i 0).toNat

/-- The two-byte field at offset `i`, lower byte first. -/
def wordAt (b : List Byte) (i : Nat) : Nat := byteAt b i + 256 * byteAt b (i + 1)

/-- The signed byte at offset `i`. -/
def signedAt (b : List Byte) (i : Nat) : Int := (b.getD i 0).toInt

/-- The sum of a sector's sixteen-bit words, lower byte first (R160). -/
def wordSum : List Byte → Nat
  | lo :: hi :: rest => lo.toNat + 256 * hi.toNat + wordSum rest
  | [lo] => lo.toNat
  | [] => 0

/-- The number of 1 bits of a byte. -/
def popCount (b : Byte) : Nat := ((List.range 8).filter fun i => b.getLsbD i).length

/-- The number of bits in which two byte strings differ, place by place. -/
def differingBits : List Byte → List Byte → Nat
  | a :: as, b :: bs => popCount (a ^^^ b) + differingBits as bs
  | _, _ => 0

end Sys2Proof.Machine
end

