-- ==== Sys2Proof/Machine/Operands.lean ====
section
/-! DEFINITION. What a command's operands name: entries and scope (R1, R5), addresses and zones (R29, R110, R111), the
service area (R113), the pieces of a SPLIT task (R116), dispositions (R106 to R108), overlap with test sectors (R121). -/

namespace Sys2Proof.Machine

/-! ### Entries (R1) -/

/-- The index of an entry: unit × 64 + head × 4 + zone (R1). -/
def entryNo (u : UnitNo) (h : HeadNo) (z : ZoneNo) : EntryNo :=
  ⟨u.val * 64 + h.val * 4 + z.val, by have := u.isLt; have := h.isLt; have := z.isLt; omega⟩

/-- The unit of an entry (R1). -/
def unitOf (i : EntryNo) : UnitNo := ⟨i.val / 64, by have := i.isLt; omega⟩

/-- The head of an entry (R1). -/
def headOf (i : EntryNo) : HeadNo := ⟨i.val / 4 % 16, by omega⟩

/-- The zone of an entry (R1). -/
def zoneOf (i : EntryNo) : ZoneNo := ⟨i.val % 4, by omega⟩

/-- The entries in map order (R1). -/
def allEntries : List EntryNo := List.finRange 128

/-- The four zones in order. -/
def allZones : List ZoneNo := List.finRange 4

/-- R5: unit enabled, head in the unit's mask, zone below the zone count. -/
def Plan.inScope (p : Plan) (i : EntryNo) : Bool :=
  p.unitMask.get (unitOf i) && (p.headMask.get (unitOf i)).getLsbD (headOf i).val
    && decide ((zoneOf i).val < p.zoneCount)

/-! ### Addresses (R29, R110) -/

/-- Linear address to cylinder, head, sector (R29). -/
def Geometry.ofLinear (g : Geometry) (a : Nat) : Chs :=
  ⟨a / (g.heads * g.sectors), a / g.sectors % g.heads, a % g.sectors + 1⟩

/-- Cylinder, head, sector to linear address (R110). -/
def Geometry.toLinear (g : Geometry) (c : Chs) : Nat :=
  (c.cylinder * g.heads + c.head) * g.sectors + c.sector - 1

/-- The `n` sectors from linear address `a` in the order of R29; none when one falls above cylinder 65535 (R110). -/
def Geometry.run (g : Geometry) (a n : Nat) : Option (List Chs) :=
  let secs := (List.range n).map fun i => g.ofLinear (a + i)
  if secs.all fun c => decide (c.cylinder ≤ 65535) then some secs else none

/-- The sectors of a task of `n` sectors, in the order the drive handles them, or none when it cannot be located
(R110). -/
def locate (g : Option Geometry) (f : TaskFields) (n : Nat) : Option (List Chs) :=
  match g, f.addressing with
  | some g, .chs =>
    if f.head.val < g.heads ∧ f.sector ≤ g.sectors then
      g.run (g.toLinear ⟨f.cylinder, f.head.val, f.sector⟩) n
    else none
  | some g, .linear => g.run f.linear n
  | none, .chs => some ((List.range n).map fun i => ⟨f.cylinder, f.head.val, min 255 (f.sector + i)⟩)
  | none, .linear => none

/-- Whether the op has an address (R28). -/
def hasAddress : Op → Bool
  | .read | .readRaw | .verify | .write | .seek => true
  | .home | .setGeometry | .setOption | .spinUp | .spinDown | .powerQuery | .identify => false

/-- Whether the op has a count (R28). -/
def hasCount : Op → Bool
  | .read | .readRaw | .verify | .write => true
  | .seek | .home | .setGeometry | .setOption | .spinUp | .spinDown | .powerQuery | .identify => false

/-- The count of a task, or 0 for an op without one (R124, R125). -/
def countOrZero (t : Task) : Nat := if hasCount t.op then t.fields.count else 0

/-- The last address of a task ended inside the part: its start translated to CHS, or 0/0/1 when the op has no address
or the start cannot be located (R124, R125; DEDUCED, log 17). -/
def startAddress (g : Option Geometry) (t : Task) : Chs :=
  if hasAddress t.op then
    match locate g t.fields 1 with
    | some (c :: _) => c
    | _ => ⟨0, 0, 1⟩
  else ⟨0, 0, 1⟩

/-- The completion the part makes for a task it ends itself: ERROR ABORTED with the whole count remaining (R124, R125,
R137). -/
def endedInside (g : Option Geometry) (t : Task) : Completion :=
  { status := .error .aborted, corrected := false, remaining := countOrZero t, last := startAddress g t }

/-! ### Zones and entries of sectors (R111) -/

/-- The zone of a cylinder: the largest zone below the count whose first cylinder is at or below it (R111). -/
def Plan.zoneOfCylinder (p : Plan) (cyl : Nat) : ZoneNo :=
  allZones.foldl
    (fun best z => if z.val < p.zoneCount ∧ (p.zones[z]).firstCylinder ≤ cyl then z else best) 0

/-- The entry of a located sector (R111). -/
def Plan.entryOfSector (p : Plan) (u : UnitNo) (c : Chs) : EntryNo :=
  entryNo u (Fin.ofNat 16 c.head) (p.zoneOfCylinder c.cylinder)

/-! ### Service area (R113, R156) -/

/-- The service cylinder: strap value × 256 (R156). -/
def serviceCylinder (strap : BitVec 8) : Nat := strap.toNat * 256

/-- Whether a sector lies in the service area: service cylinder, head 0, sector 1 to 8 (R113). -/
def inServiceArea (strap : BitVec 8) (c : Chs) : Bool :=
  decide (c.cylinder = serviceCylinder strap) && decide (c.head = 0) && decide (1 ≤ c.sector)
    && decide (c.sector ≤ 8)

/-- Whether a sector is the plan sector (R156). -/
def isPlanSector (strap : BitVec 8) (c : Chs) : Bool :=
  inServiceArea strap c && decide (c.sector = 1)

/-! ### Pieces (R116) -/

/-- The pieces of a run of sectors: a new piece at the first sector and wherever the entry changes (R116). -/
def buildPieces (entryOf : Chs → EntryNo) (scope : EntryNo → Bool) : List Chs → List Piece
  | [] => []
  | c :: cs =>
    match buildPieces entryOf scope cs with
    | [] => [⟨c, 1, entryOf c, scope (entryOf c)⟩]
    | p :: ps =>
      if entryOf c = p.entry then { p with start := c, count := p.count + 1 } :: ps
      else ⟨c, 1, entryOf c, scope (entryOf c)⟩ :: p :: ps

/-! ### Dispositions (R106, R107, R108) -/

/-- The disposition of a READ, READ RAW or VERIFY and the counter it moves, by the tests of R106 in order. -/
def readDisposition (p : Plan) (g : Option Geometry) (strap : BitVec 8) (f : TaskFields) :
    Disposition × CounterName :=
  match locate g f f.count with
  | none => if f.offset = 0 then (.pass, .untranslated) else (.pass, .passed)
  | some secs =>
    if secs.all (inServiceArea strap) then (.localAnswer (secs.map (·.sector)), .localAnswers)
    else if secs.any (inServiceArea strap) then (.pass, .untranslated)
    else if f.offset ≠ 0 then (.pass, .passed)
    else
      match secs.map (p.entryOfSector f.unit) with
      | [] => (.pass, .passed)
      | e :: es =>
        if es.all (· = e) then
          if p.inScope e then (.apply e, .applied) else (.pass, .passed)
        else if (e :: es).any p.inScope then
          (.split ⟨buildPieces (p.entryOfSector f.unit) p.inScope secs, 0, f.count, false⟩, .split)
        else (.pass, .passed)

/-- The disposition of a WRITE (R107): SNOOP when its sectors include the plan sector, with the plan sector's place. -/
def writeDisposition (g : Option Geometry) (strap : BitVec 8) (f : TaskFields) : Disposition × CounterName :=
  match locate g f f.count with
  | none => (.pass, .passed)
  | some secs =>
    match secs.findIdx? (isPlanSector strap) with
    | some q => (.snoop q, .passed)
    | none => (.pass, .passed)

/-- The disposition of a bench task in ACTIVE mode (R106, R107, R108). -/
def activeDisposition (p : Plan) (g : Option Geometry) (strap : BitVec 8) (t : Task) :
    Disposition × CounterName :=
  match t.op with
  | .read | .readRaw | .verify => readDisposition p g strap t.fields
  | .write => writeDisposition g strap t.fields
  | .seek | .home | .setGeometry | .setOption | .spinUp | .spinDown | .powerQuery | .identify => (.pass, .passed)

/-- R127: one counter rises by 1, wrapping at 32 bits. -/
def Counters.bump (c : Counters) : CounterName → Counters
  | .passed => { c with passed := c.passed + 1 }
  | .applied => { c with applied := c.applied + 1 }
  | .split => { c with split := c.split + 1 }
  | .localAnswers => { c with localAnswers := c.localAnswers + 1 }
  | .untranslated => { c with untranslated := c.untranslated + 1 }

/-! ### Overlap of a WRITE with the test sectors (R121) -/

/-- Whether a sector lies on the test sectors of zone `z` (R121). -/
def Plan.onTestSectors (p : Plan) (z : ZoneNo) (c : Chs) : Bool :=
  decide (z.val < p.zoneCount) && decide (c.cylinder = (p.zones[z]).testCylinder)
    && decide ((p.zones[z]).firstSector ≤ c.sector)
    && decide (c.sector < (p.zones[z]).firstSector + (p.zones[z]).sectorCount)

/-- Whether a bench WRITE overlaps the test sectors of entry `i` (R121). -/
def writeOverlaps (p : Plan) (g : Option Geometry) (f : TaskFields) (i : EntryNo) : Bool :=
  decide (unitOf i = f.unit) &&
    match locate g f f.count with
    | none => true
    | some secs => secs.any fun c => decide (c.head = (headOf i).val) && p.onTestSectors (zoneOf i) c

end Sys2Proof.Machine
end

