-- ==== Sys2Proof/Machine/PlanSector.lean ====
section
/-! DEFINITION. The plan sector: its layout (R178), its judgement by signature, check word, clamps and coherence (R159 to
R163), and the sector served for the plan in force (R176). -/

namespace Sys2Proof.Machine

/-- The fields of a plan sector as written, before any clamp (R178). -/
structure RawPlan where
  number : Nat
  actions : Nat
  unitMask : Nat
  headMask0 : Nat
  headMask1 : Nat
  zoneCount : Nat
  order : Nat
  mirror : Nat
  passes : Nat
  step : Nat
  offset1 : Int
  offset2 : Int
  minWidth : Nat
  threshold : Nat
  maxMove : Nat
  driftLimit : Nat
  pattern : Nat
  settleCount : Nat
  maxAge : Nat
  taskTimeout : Nat
  benchGrace : Nat
  graceLimit : Nat
  swmarkMode : Nat
  zones : Vector ZoneRow 4
  deriving DecidableEq, Repr

/-- The zone-table row at byte offset `i` (R178). -/
def parseZoneRow (b : List Byte) (i : Nat) : ZoneRow :=
  ⟨wordAt b i, wordAt b (i + 2), byteAt b (i + 4), byteAt b (i + 5)⟩

/-- A written plan read from its places (R178). -/
def parsePlan (b : List Byte) : RawPlan where
  number := wordAt b 4
  actions := byteAt b 6
  unitMask := byteAt b 7
  headMask0 := wordAt b 8
  headMask1 := wordAt b 10
  zoneCount := byteAt b 12
  order := byteAt b 13
  mirror := byteAt b 14
  passes := byteAt b 15
  step := byteAt b 16
  offset1 := signedAt b 17
  offset2 := signedAt b 18
  minWidth := byteAt b 19
  threshold := wordAt b 20
  maxMove := byteAt b 22
  driftLimit := byteAt b 23
  pattern := byteAt b 24
  settleCount := byteAt b 25
  maxAge := wordAt b 26
  taskTimeout := byteAt b 28
  benchGrace := byteAt b 29
  graceLimit := byteAt b 30
  swmarkMode := byteAt b 31
  zones := #v[parseZoneRow b 32, parseZoneRow b 40, parseZoneRow b 48, parseZoneRow b 56]

/-- The order of an order code; codes above 2 become ASCENDING (R161). -/
def orderOfCode : Nat → Order
  | 1 => .descending
  | 2 => .centreOut
  | _ => .ascending

/-- The mode of a SWMARK mode code; codes above 2 become OFF (R161). -/
def swmarkModeOfCode : Nat → SwmarkMode
  | 1 => .sweep
  | 2 => .point
  | _ => .off

/-- A value brought into lo..hi. -/
def clampTo (lo hi n : Nat) : Nat := max lo (min hi n)

/-- −128 becomes −127 (R161). -/
def clampOffset (o : Int) : Int := max (-127) o

/-- O2 above O1 + 63 × D becomes O1 + 63 × D; O1, O2 and D after their own clamps (R161). -/
def clampSpan (o1 o2 : Int) (step : Nat) : Int := min o2 (o1 + 63 * step)

/-- A zone-table row below the zone count after its clamps: zone 0's first cylinder 0, F at least 1, K in 1..16
(R161). -/
def clampRow (z : Nat) (r : ZoneRow) : ZoneRow :=
  ⟨if z = 0 then 0 else r.firstCylinder, r.testCylinder, clampTo 1 255 r.firstSector, clampTo 1 16 r.sectorCount⟩

/-- Whether a zone-table row is clamped: it lies below a zone count of 1 to 4 (R161). -/
def rowClamped (zoneCount z : Nat) : Bool := decide (zoneCount ≤ 4) && decide (z < zoneCount)

/-- The row of zone `z` in the clamped plan (R161). -/
def clampedRow (r : RawPlan) (z : ZoneNo) : ZoneRow :=
  if rowClamped r.zoneCount z.val then clampRow z.val r.zones[z] else r.zones[z]

/-- The action set of an action byte; bits that name nothing are disregarded (R161, R178). -/
def actionsOfByte (n : Nat) : Actions :=
  ⟨n.testBit 0, n.testBit 1, n.testBit 2, n.testBit 3⟩

/-- The plan with every field brought into its range (R161). -/
def RawPlan.clamp (r : RawPlan) : Plan :=
  let step := clampTo 1 16 r.step
  let o1 := clampOffset r.offset1
  { number := r.number
    actions := actionsOfByte r.actions
    unitMask := ⟨r.unitMask.testBit 0, r.unitMask.testBit 1⟩
    headMask := ⟨BitVec.ofNat 16 r.headMask0, BitVec.ofNat 16 r.headMask1⟩
    zoneCount := r.zoneCount
    order := orderOfCode r.order
    mirror := decide (r.mirror ≠ 0)
    passes := clampTo 1 4 r.passes
    step := step
    offset1 := o1
    offset2 := clampSpan o1 (clampOffset r.offset2) step
    minWidth := min 127 r.minWidth
    threshold := min 4096 r.threshold
    maxMove := clampTo 1 127 r.maxMove
    driftLimit := max 1 r.driftLimit
    pattern := r.pattern % 16
    settleCount := clampTo 2 64 r.settleCount
    maxAge := r.maxAge
    taskTimeout := max 1 r.taskTimeout
    benchGrace := r.benchGrace
    graceLimit := max 1 r.graceLimit
    swmarkMode := swmarkModeOfCode r.swmarkMode
    zones := #v[clampedRow r 0, clampedRow r 1, clampedRow r 2, clampedRow r 3] }

/-- Whether some field lay outside its range as written, so that the plan is marked clamped (R161). The mirror never
marks it. -/
def RawPlan.isClamped (r : RawPlan) : Bool :=
  let p := r.clamp
  decide (r.step ≠ p.step) || decide (r.offset1 ≠ p.offset1) || decide (r.offset2 ≠ p.offset2)
    || decide (r.order > 2) || decide (r.passes ≠ p.passes) || decide (r.threshold ≠ p.threshold)
    || decide (r.minWidth ≠ p.minWidth) || decide (r.maxMove ≠ p.maxMove)
    || decide (r.driftLimit ≠ p.driftLimit) || decide (r.pattern ≠ p.pattern)
    || decide (r.settleCount ≠ p.settleCount) || decide (r.taskTimeout ≠ p.taskTimeout)
    || decide (r.graceLimit ≠ p.graceLimit) || decide (r.swmarkMode > 2) || decide (r.zones ≠ p.zones)

/-- The zone numbers below a plan's zone count. -/
def Plan.definedZones (p : Plan) : List ZoneNo := allZones.filter fun z => decide (z.val < p.zoneCount)

/-- Whether zone `z`'s first cylinder lies above that of the zone before it (R162). -/
def Plan.zoneAscends (p : Plan) (z : ZoneNo) : Bool :=
  allZones.all fun y => !decide (y.val + 1 = z.val) ||
    decide ((p.zones[y]).firstCylinder < (p.zones[z]).firstCylinder)

/-- Whether zone `z`'s test cylinder lies in the zone: at or above its first cylinder, and below the next defined
zone's (R162). -/
def Plan.testInZone (p : Plan) (z : ZoneNo) : Bool :=
  decide ((p.zones[z]).firstCylinder ≤ (p.zones[z]).testCylinder) &&
    p.definedZones.all fun y => !decide (y.val = z.val + 1) ||
      decide ((p.zones[z]).testCylinder < (p.zones[y]).firstCylinder)

/-- The first coherence test that fails, in the order COUNT, ZONES, TESTCYL, RANGE (R162). -/
def Plan.incoherence (p : Plan) : Option RefusalCause :=
  if p.zoneCount = 0 ∨ 4 < p.zoneCount then some .count
  else if !p.definedZones.all p.zoneAscends then some .zones
  else if !p.definedZones.all p.testInZone then some .testcyl
  else if p.offset2 < p.offset1 then some .range
  else none

/-- What the judgement of a sector gives (R163). -/
inductive Judgement where
  | ignored
  | refused (number : Nat) (cause : RefusalCause)
  | taken (p : Plan) (clamped : Bool)
  deriving DecidableEq, Repr

/-- The judgement of a sector: signature, check word, clamps, coherence (R159 to R163). -/
def judge (b : List Byte) : Judgement :=
  if wordAt b 0 ≠ Config.planSignature.1 ∨ wordAt b 2 ≠ Config.planSignature.2 then .ignored
  else
    let r := parsePlan b
    if wordSum b % 65536 ≠ 0 then .refused r.number .check
    else
      match r.clamp.incoherence with
      | some c => .refused r.number c
      | none => .taken r.clamp r.isClamped

/-- The plan event that records a judgement (R163). -/
def Judgement.event : Judgement → PlanEvent
  | .ignored => ⟨0, .ignored, none⟩
  | .refused n c => ⟨n, .refused, some c⟩
  | .taken p false => ⟨p.number, .taken, none⟩
  | .taken p true => ⟨p.number, .takenClamped, none⟩

/-! ### The plan in force as served (R176) -/

/-- The action byte (R178). -/
def Actions.code (a : Actions) : Nat :=
  bit a.clearMap 1 + bit a.queueAll 2 + bit a.hold 4 + bit a.release 8

/-- The order code (R161). -/
def Order.code : Order → Nat
  | .ascending => 0
  | .descending => 1
  | .centreOut => 2

/-- The SWMARK mode code (R161). -/
def SwmarkMode.code : SwmarkMode → Nat
  | .off => 0
  | .sweep => 1
  | .point => 2

/-- A zone-table row in the layout of R178. -/
def zoneRowBytes (r : ZoneRow) : List Byte :=
  le16 r.firstCylinder ++ le16 r.testCylinder ++ [byte r.firstSector, byte r.sectorCount] ++ zeros 2

/-- The first 64 bytes of the plan layout (R178). -/
def planBody (p : Plan) : List Byte :=
  le16 Config.planSignature.1 ++ le16 Config.planSignature.2 ++ le16 p.number
    ++ [byte p.actions.code, byte (bit p.unitMask.u0 1 + bit p.unitMask.u1 2)]
    ++ le16 p.headMask.u0.toNat ++ le16 p.headMask.u1.toNat
    ++ [byte p.zoneCount, byte p.order.code, byte (bit p.mirror 1), byte p.passes, byte p.step,
        signedByte p.offset1, signedByte p.offset2, byte p.minWidth]
    ++ le16 p.threshold
    ++ [byte p.maxMove, byte p.driftLimit, byte p.pattern, byte p.settleCount]
    ++ le16 p.maxAge
    ++ [byte p.taskTimeout, byte p.benchGrace, byte p.graceLimit, byte p.swmarkMode.code]
    ++ zoneRowBytes p.zones[0] ++ zoneRowBytes p.zones[1] ++ zoneRowBytes p.zones[2] ++ zoneRowBytes p.zones[3]

/-- The check word that brings the sum of all 256 words to 0 modulo 65536 (R176). -/
def checkWord (body : List Byte) : Nat := (65536 - wordSum body % 65536) % 65536

/-- The sector served for a plan in force: layout, padding, check word (R176, R178). -/
def planSector (p : Plan) : List Byte :=
  padTo 510 (planBody p) ++ le16 (checkWord (planBody p))

end Sys2Proof.Machine
end

