-- ==== Sys2Proof/Machine/Pattern.lean ====
section
/-! DEFINITION. The reference pattern (R55), the walk of the points (R56 to R58) and the records of sweep tasks (R53,
R59). -/

namespace Sys2Proof.Machine

/-- Word `k` of the reference pattern for sector `s`, head `h`, cylinder `c` under pattern number `pn` (R55). -/
def patternWord (pn s h c k : Nat) : Nat :=
  (4099 * pn + 40503 * (k + 1) + 257 * s + 31 * h + c) % 65536

/-- The 512 bytes of the reference pattern of a sector: 256 words, lower byte first (R55). -/
def patternSector (pn s h c : Nat) : List Byte :=
  (List.range 256).flatMap fun k => le16 (patternWord pn s h c k)

/-- A delivered sector's count: the bits of its 512 data bytes that differ from the pattern (R60). -/
def errorCount (pn s h c : Nat) (bytes : List Byte) : Nat :=
  differingBits (bytes.take Config.sectorBytes) (patternSector pn s h c)

/-- The sector supplied at place `q` of a lay WRITE's run: K sectors, at places 0 to K − 1 (R53, R98). -/
def LaySupply.sector (l : LaySupply) (q : Nat) : Option (List Byte) :=
  if q < l.sectorCount then some (patternSector l.pattern (l.firstSector + q) l.head.val l.cylinder) else none

/-- The point count: floor((O2 − O1) / D) + 1 (R51). -/
def pointCount (offset1 offset2 : Int) (step : Nat) : Nat := ((offset2 - offset1) / step).toNat + 1

/-- The offset of point `i`: O1 + i × D (R56). -/
def pointOffset (offset1 : Int) (step i : Nat) : Int := offset1 + i * step

/-- The CENTRE-OUT walk: m, m + 1, m − 1, m + 2, …, indices outside 0..n − 1 skipped (R57). -/
def centreOutWalk (n : Nat) : List Nat :=
  let m := (n - 1) / 2
  m :: (List.range n).flatMap fun k =>
    (if m + (k + 1) < n then [m + (k + 1)] else []) ++ (if k + 1 ≤ m then [m - (k + 1)] else [])

/-- The walk of an order (R57). -/
def walk (o : Order) (n : Nat) : List Nat :=
  match o with
  | .ascending => List.range n
  | .descending => (List.range n).reverse
  | .centreOut => centreOutWalk n

/-- The walk of pass `p`: reversed in even passes when mirror is yes (R58). -/
def passWalk (o : Order) (mirror : Bool) (n p : Nat) : List Nat :=
  if mirror && p % 2 == 0 then (walk o n).reverse else walk o n

/-- The point index at the cursor (R57, R58). -/
def Context.point (c : Context) : Nat := (passWalk c.order c.mirror c.points c.pass).getD c.position 0

/-- The lay WRITE of a sweep (R53). -/
def Context.layTask (c : Context) : Task where
  op := .write
  fields :=
    { unit := unitOf c.subject, addressing := .chs, cylinder := c.testCylinder, head := headOf c.subject,
      sector := c.firstSector, count := c.sectorCount, offset := 0, retryOn := false }

/-- The READ RAW that serves point `i` (R59). -/
def Context.pointTask (c : Context) (i : Nat) : Task where
  op := .readRaw
  fields :=
    { unit := unitOf c.subject, addressing := .chs, cylinder := c.testCylinder, head := headOf c.subject,
      sector := c.firstSector, count := c.sectorCount, offset := pointOffset c.offset1 c.step i, retryOn := false }

/-- The engine's next task (R53, R59), as it is when granted: nothing delivered, tally 0 (R62). -/
def Context.nextFlight (c : Context) : Flight :=
  match c.phase with
  | .laying => ⟨c.layTask, .lay, 0, 0⟩
  | .sweeping => ⟨c.pointTask c.point, .point c.point, 0, 0⟩

/-- What is kept of a lay WRITE of this sweep (R98). -/
def Context.laySupply (c : Context) : LaySupply :=
  ⟨unitOf c.subject, headOf c.subject, c.testCylinder, c.firstSector, c.sectorCount, c.pattern⟩

/-- The point sums with `n` added to sum `i` (R61). -/
def addSum (sums : List Nat) (i n : Nat) : List Nat := sums.set i (sums.getD i 0 + n)

/-- The cursor after a counted point: the next position, the next pass, or none when the curve is complete (R58). -/
def Context.advance (c : Context) : Option Context :=
  if c.position + 1 < c.points then some { c with position := c.position + 1 }
  else if c.pass < c.passes then some { c with pass := c.pass + 1, position := 0 }
  else none

/-- What a completed point task adds to its sum: the tally, and on ERROR 4096 for each sector not delivered (R61). -/
def Context.pointCharge (c : Context) (f : Flight) (st : Status) : Nat :=
  match st with
  | .good => f.tally
  | .error _ => f.tally + Config.undeliveredBits * (c.sectorCount - f.delivered)

end Sys2Proof.Machine
end

