-- ==== Sys2Proof/Machine/Fit.lean ====
section
/-! DEFINITION. The fit unit (chapter 4): limit, smoothing, opening, edges, centre, quality and the jump test. -/

namespace Sys2Proof.Machine

/-- The limit L = 4 × T × K × P (R71). -/
def fitLimit (threshold sectorCount passes : Nat) : Nat := 4 * threshold * sectorCount * passes

/-- The smoothed value s[i]: neighbours once, the point twice; a missing neighbour is the end point itself (R72). -/
def smoothed (e : List Nat) (i : Nat) : Nat :=
  let mid := e.getD i 0
  let below := if i = 0 then mid else e.getD (i - 1) 0
  let above := if i + 1 < e.length then e.getD (i + 1) 0 else mid
  below + 2 * mid + above

/-- Which points pass: s[i] ≤ L (R73). -/
def passing (e : List Nat) (limit : Nat) : List Bool :=
  (List.range e.length).map fun i => decide (smoothed e i ≤ limit)

/-- The runs of passing points as pairs of first and last index, in ascending order (R74). `i` is the index of the
list's first point and `opened` the first index of a run still open there. -/
def runsFrom (i : Nat) (opened : Option Nat) : List Bool → List (Nat × Nat)
  | [] =>
    match opened with
    | some a => [(a, i - 1)]
    | none => []
  | true :: bs =>
    match opened with
    | some a => runsFrom (i + 1) (some a) bs
    | none => runsFrom (i + 1) (some i) bs
  | false :: bs =>
    match opened with
    | some a => (a, i - 1) :: runsFrom (i + 1) none bs
    | none => runsFrom (i + 1) none bs

/-- The runs of a curve (R74). -/
def runs (pass : List Bool) : List (Nat × Nat) := runsFrom 0 none pass

/-- Twice the distance of a run's midpoint from the reference (R75). -/
def midDistance (offset1 : Int) (step : Nat) (ref : Int) (r : Nat × Nat) : Nat :=
  (pointOffset offset1 step r.1 + pointOffset offset1 step r.2 - 2 * ref).natAbs

/-- Whether run `r` takes the place of the run `best` that lies below it: it is longer, or as long and nearer the
reference (R74, R75). -/
def runBetter (offset1 : Int) (step : Nat) (ref : Int) (best r : Nat × Nat) : Bool :=
  decide (best.2 - best.1 < r.2 - r.1) ||
    (decide (r.2 - r.1 = best.2 - best.1) &&
      decide (midDistance offset1 step ref r < midDistance offset1 step ref best))

/-- The opening among the runs (R74, R75), or none when there is no run (R76). -/
def chooseRun (offset1 : Int) (step : Nat) (ref : Int) : List (Nat × Nat) → Option (Nat × Nat)
  | [] => none
  | r :: rs => some (rs.foldl (fun best x => if runBetter offset1 step ref best x then x else best) r)

/-- A whole-number division rounded to the nearest, an exact half down (R79). -/
def roundHalfDown (n v : Nat) : Nat := n / v + if 2 * (n % v) > v then 1 else 0

/-- The displacement of an edge from the passing point with smoothed value `sx` toward the failing one with `sf`
(R77, R78, R79). -/
def edgeDisplacement (step limit sx sf : Nat) : Nat := roundHalfDown (4 * step * (limit - sx)) (sf - sx)

/-- The middle of the edges: the sum over 8, to the nearest whole number, an exact half toward zero (R80). -/
def middle (sum : Int) : Int :=
  let q := sum.natAbs / 8 + if sum.natAbs % 8 ≥ 5 then 1 else 0
  if sum < 0 then -(q : Int) else q

/-- The clipped field from the two edges (R82). -/
def clipOf (low high : Bool) : Clip :=
  match low, high with
  | false, false => .none
  | true, false => .low
  | false, true => .high
  | true, true => .both

/-- The quality of a result (R82). -/
def qualityOf (clipped : Clip) (width minWidth : Nat) : Quality :=
  if clipped = .none ∧ 4 * minWidth ≤ width then .valid else .marginal

/-- The low edge of an opening that begins at index `p` (R77). -/
def lowEdge (e : List Nat) (limit : Nat) (offset1 : Int) (step p : Nat) : Int :=
  if p = 0 then 4 * pointOffset offset1 step 0
  else 4 * pointOffset offset1 step p - edgeDisplacement step limit (smoothed e p) (smoothed e (p - 1))

/-- The high edge of an opening that ends at index `q` (R78). -/
def highEdge (e : List Nat) (limit : Nat) (offset1 : Int) (step q : Nat) : Int :=
  if q + 1 = e.length then 4 * pointOffset offset1 step q
  else 4 * pointOffset offset1 step q + edgeDisplacement step limit (smoothed e q) (smoothed e (q + 1))

/-- The opening `r` of a curve worked out: edges, centre, width, clipped, quality (R77 to R82). -/
def measureOpening (e : List Nat) (limit : Nat) (offset1 : Int) (step minWidth : Nat) (r : Nat × Nat) : Opening :=
  let l := lowEdge e limit offset1 step r.1
  let h := highEdge e limit offset1 step r.2
  let clipped := clipOf (decide (r.1 = 0)) (decide (r.2 + 1 = e.length))
  let width := (h - l).toNat
  ⟨l, h, middle (l + h), width, clipped, qualityOf clipped width minWidth⟩

/-- The outcome of a commit by quality (R83, steps 1 and 2). -/
def commitOutcome : Quality → FitOutcome
  | .valid => .committed
  | .marginal => .marginal

/-- The jump test (R83), its steps in order. A SUSPECT prior state with no prior candidate (no such state is reached,
R3) is taken as agreeing with no candidate. -/
def jumpTest (o : Opening) (maxMove : Nat) (priorState : EntryState) (priorCentre priorCandidate : Option Int) :
    FitOutcome :=
  match priorCentre with
  | none => commitOutcome o.quality
  | some c =>
    if (o.centre - c).natAbs ≤ maxMove then commitOutcome o.quality
    else if priorState = .suspect then
      match priorCandidate with
      | some d => if (o.centre - d).natAbs ≤ maxMove then .confirmed else .failedJump
      | none => .failedJump
    else .jump

/-- The fit of a complete curve (R69, R70). -/
def Context.fit (c : Context) : FitResult :=
  let limit := fitLimit c.threshold c.sectorCount c.passes
  match chooseRun c.offset1 c.step (c.priorCentre.getD 0) (runs (passing c.sums limit)) with
  | none => .noOpening
  | some r =>
    let o := measureOpening c.sums limit c.offset1 c.step c.minWidth r
    .found o (jumpTest o c.maxMove c.priorState c.priorCentre c.priorCandidate)

/-- The points of a curve in ascending offset (R70, R103). -/
def Context.curvePoints (c : Context) : List (Int × Nat) :=
  (List.range c.sums.length).map fun i => (pointOffset c.offset1 c.step i, c.sums.getD i 0)

end Sys2Proof.Machine
end

