-- ==== Sys2Proof/Machine/Spindle.lean ====
section
/-! DEFINITION. The spindle monitor's own rules (chapter 8): what a pulse, the stop timer and a SPIN DOWN do to one
monitor record. What follows from them for sweeps and entries is in Machine/Ops.lean. -/

namespace Sys2Proof.Machine

/-- The stability test of an interval against the last period (R144): absent before a first period. -/
inductive Stability where
  | untested | stable | unstable
  deriving DecidableEq, Repr

/-- R144: stable when within floor(P / 128) of the last period either way; above 2000000 µs always unstable. -/
def stability (lastPeriod : Option Nat) (interval : Nat) : Stability :=
  match lastPeriod with
  | none => .untested
  | some p =>
    if interval ≤ Config.maxPeriod ∧ interval ≤ p + p / Config.stabilityDivisor
        ∧ p ≤ interval + p / Config.stabilityDivisor then .stable else .unstable

/-- The length of the stop timer (R145). -/
def stopTimerLength (lastPeriod : Option Nat) : Nat :=
  match lastPeriod with
  | none => Config.stopTimerNoPeriod
  | some p => 4 * p

/-- R143: a pulse is accepted unless it comes less than 1000 µs after the last accepted one. -/
def Monitor.accepts (m : Monitor) (t : Nat) : Bool :=
  match m.lastPulse with
  | none => true
  | some last => decide (Config.pulseFilter ≤ t - last)

/-- The test an accepted pulse makes (R144). -/
def Monitor.test (m : Monitor) (t : Nat) : Stability :=
  match m.lastPulse with
  | none => .untested
  | some last => stability m.lastPeriod (t - last)

/-- The last period after an accepted pulse (R144). -/
def Monitor.nextPeriod (m : Monitor) (t : Nat) : Option Nat :=
  match m.lastPulse with
  | none => m.lastPeriod
  | some last => some (min Config.maxPeriod (t - last))

/-- The stable count after an accepted pulse (R144). -/
def Monitor.nextStable (m : Monitor) (t : Nat) : Nat :=
  match m.lastPulse with
  | none => m.stable
  | some last =>
    match stability m.lastPeriod (t - last) with
    | .untested => 0
    | .stable => min 255 (m.stable + 1)
    | .unstable => 0

/-- The record after the interval of an accepted pulse is worked, its state still to be judged (R144, R145). -/
def Monitor.worked (m : Monitor) (t : Nat) : Monitor :=
  { m with
    lastPulse := some t
    lastPeriod := m.nextPeriod t
    stable := m.nextStable t
    stopTimer := some (t + stopTimerLength (m.nextPeriod t)) }

/-- Whether the 2000 ms window of STOPPING has passed at `t` (R152). -/
def Monitor.windowPassed (m : Monitor) (t : Nat) : Bool :=
  match m.stoppingSince with
  | none => false
  | some since => decide (since + Config.stoppingWindow < t)

/-- What follows outside the monitor from an accepted pulse: nothing, the unit reaching SETTLED (R148), or its leaving
SETTLED by an unstable interval (R149). -/
inductive PulseResult where
  | quiet | settles | unsettles
  deriving DecidableEq, Repr

/-- An accepted pulse at `t` under the plan's settle count (R146, R147, R149, R150, R152). -/
def Monitor.pulse (m : Monitor) (t settleCount : Nat) : Monitor × PulseResult :=
  let w := m.worked t
  match m.state with
  | .unknown => ({ w with state := .spinningUp }, .quiet)
  | .stopped => ({ w with state := .spinningUp }, .quiet)
  | .spinningUp =>
    if settleCount ≤ w.stable then ({ w with state := .settled }, .settles) else (w, .quiet)
  | .settled =>
    if m.test t = .unstable then ({ w with state := .spinningUp }, .unsettles) else (w, .quiet)
  | .stopping =>
    if m.windowPassed t then ({ w with state := .spinningUp, stable := 0, stoppingSince := none }, .quiet)
    else (w, .quiet)

/-- The monitor at a declared stop (R145). -/
def Monitor.declareStop (m : Monitor) : Monitor :=
  { m with
    state := .stopped
    lastPulse := none
    lastPeriod := none
    stable := 0
    stopRemembered := true
    stoppingSince := none
    stopTimer := none }

/-- Whether the stop timer has run out at `t` (R145). -/
def Monitor.stopDue (m : Monitor) (t : Nat) : Bool :=
  match m.stopTimer with
  | none => false
  | some e => decide (e ≤ t)

/-- A SPIN DOWN issued to the unit at `t` (R151). -/
def Monitor.spinDown (m : Monitor) (t : Nat) : Monitor :=
  match m.state with
  | .spinningUp | .settled | .stopping => { m with state := .stopping, stoppingSince := some t }
  | .stopped | .unknown => m

end Sys2Proof.Machine
end

