-- ==== Sys2Proof/Machine/Ops.lean ====
section
/-! DEFINITION. The shared operations on State: time, the head map, the sweep queue, the engine's look, the ending of a
sweep, drift, staleness, pattern loss and the spindle's effects. Every command's meaning is put together from these. -/

namespace Sys2Proof.Machine

/-! ### Named updates -/

/-- The command's time becomes the present; a stamp before the present is taken at the present (DESIGN CHOICE, log 2). -/
def State.advance (s : State) (t : Nat) : State := { s with now := max s.now t }

def State.setSlot (s : State) (b : Option BenchTask) : State := { s with slot := b }
def State.setPort (s : State) (p : Port) : State := { s with port := p }
def State.setQueue (s : State) (q : List QueueRec) : State := { s with queue := q }
def State.setEngine (s : State) (c : Option Context) : State := { s with engine := c }
def State.setEntries (s : State) (v : Vector Entry 128) : State := { s with entries := v }
def State.setSwmark (s : State) (w : Swmark) : State := { s with swmark := w }
def State.setBlink (s : State) (b : Option Blink) : State := { s with blink := b }
def State.setMonitors (s : State) (m : PerUnit Monitor) : State := { s with monitors := m }

/-! ### Reading the state -/

/-- The head-map entry with index `i`. -/
def State.entry (s : State) (i : EntryNo) : Entry := s.entries[i]

/-- Entry `i` takes the value `e`. -/
def State.setEntry (s : State) (i : EntryNo) (e : Entry) : State := s.setEntries (s.entries.set i.val e i.isLt)

/-- The part runs in ACTIVE mode: the TRANSPARENT strap is not fitted (R104, R186). -/
def State.active (s : State) : Bool := !s.straps.transparent

/-- The hold condition: line part or plan part (R136, R185). -/
def State.holdOn (s : State) : Bool := s.holdLine.asserted || s.planHold

/-- Whether entry `i` is the subject of the running sweep. -/
def State.isSubject (s : State) (i : EntryNo) : Bool :=
  match s.engine with
  | some c => decide (c.subject = i)
  | none => false

/-- Whether the queue holds a record for entry `i`. -/
def State.isQueued (s : State) (i : EntryNo) : Bool := s.queue.any fun r => decide (r.entry = i)

/-- Whether the port is WEDGED on unit `u` (R128). -/
def State.wedgedOn (s : State) (u : UnitNo) : Bool :=
  match s.port.state with
  | .wedged v _ => decide (v = u)
  | .free _ | .bench _ | .sweep _ _ _ _ | .aborting _ _ _ => false

/-- Whether unit `u`'s monitor is SETTLED. -/
def State.settled (s : State) (u : UnitNo) : Bool := decide ((s.monitors.get u).state = .settled)

/-- The engine has a sweep task ready, and asks the arbiter for the port (R62, R129). -/
def State.sweepReady (s : State) : Bool :=
  match s.engine with
  | some c => c.flight.isNone && !s.holdOn && s.settled (unitOf c.subject)
  | none => false

/-! ### The sweep queue (R44 to R49) -/

/-- A tail request for entry `i` with a cause (R44). -/
def State.request (s : State) (i : EntryNo) (cause : Cause) : State :=
  if !s.plan.inScope i then s
  else if s.isSubject i then s
  else if s.isQueued i then s
  else if s.queue.length < Config.queueCapacity then
    (s.setQueue (s.queue ++ [⟨i, cause⟩])).setEntry i { s.entry i with wanted := none }
  else s.setEntry i { s.entry i with wanted := some cause }

/-- The record a front request pushes out of a full queue: its entry's wanted cause becomes the record's (R45). -/
def State.displaceTail (s : State) : State :=
  if s.queue.length < Config.queueCapacity then s
  else
    match s.queue.getLast? with
    | some r =>
      (s.setQueue s.queue.dropLast).setEntry r.entry { s.entry r.entry with wanted := some r.cause }
    | none => s

/-- A front request with cause RESUME for entry `i` (R45). -/
def State.requestFront (s : State) (i : EntryNo) : State :=
  let s := s.displaceTail
  s.setQueue (⟨i, .resume⟩ :: s.queue)

/-- The re-offer of one entry: while the count is below 16 its wanted cause becomes a record at the tail (R46). -/
def State.reofferOne (s : State) (i : EntryNo) : State :=
  match (s.entry i).wanted with
  | some cause =>
    if s.queue.length < Config.queueCapacity then
      (s.setQueue (s.queue ++ [⟨i, cause⟩])).setEntry i { s.entry i with wanted := none }
    else s
  | none => s

/-- The re-offer of wanted entries, in map order (R46). -/
def State.reoffer (s : State) : State := allEntries.foldl State.reofferOne s

/-- Whether a queue record is eligible (R48). -/
def State.eligible (s : State) (r : QueueRec) : Bool :=
  s.settled (unitOf r.entry) && !s.wedgedOn (unitOf r.entry) && s.plan.inScope r.entry

/-- The context built from a record, the plan in force and the subject's entry (R51, R52, R9). -/
def State.buildContext (s : State) (r : QueueRec) : Context :=
  let p := s.plan
  let e := s.entry r.entry
  let row := p.zones[zoneOf r.entry]
  let n := pointCount p.offset1 p.offset2 p.step
  { phase := if e.laid then .sweeping else .laying
    subject := r.entry
    cause := r.cause
    priorState := e.state
    priorCentre := e.centre
    priorCandidate := e.candidate
    testCylinder := row.testCylinder
    firstSector := row.firstSector
    sectorCount := row.sectorCount
    offset1 := p.offset1
    offset2 := p.offset2
    step := p.step
    points := n
    order := p.order
    mirror := p.mirror
    passes := p.passes
    threshold := p.threshold
    minWidth := p.minWidth
    maxMove := p.maxMove
    pattern := p.pattern
    taskTimeout := p.taskTimeout
    pass := 1
    position := 0
    sums := List.replicate n 0
    flight := none }

/-- SWMARK at the start of a sweep: in SWEEP mode high, or after an ending at the same event low for the 2 µs gap
(R182). A sweep that ends within that gap shows no high interval (DESIGN CHOICE, log 28). -/
def State.swmarkStart (s : State) (backToBack : Bool) : Swmark :=
  match s.plan.swmarkMode with
  | .sweep => if backToBack then ⟨false, some (s.now + Config.swmarkGap), none⟩ else ⟨true, none, none⟩
  | .off | .point => s.swmark

/-- The engine takes record `r`: the record leaves the queue, the context is built, the subject goes to MEASURING with
its candidate in the context, the re-offer follows, SWMARK and the READY blink start (R49, R9, R46, R182, R183). -/
def State.takeRecord (s : State) (backToBack : Bool) (r : QueueRec) : State :=
  let c := s.buildContext r
  let s := { s with
    engine := some c
    queue := s.queue.erase r
    swmark := s.swmarkStart backToBack
    blink := some ⟨true, s.now + Config.blinkHalf⟩ }
  (s.setEntry r.entry { s.entry r.entry with state := .measuring, candidate := none }).reoffer

/-- The engine looks for a record and takes the eligible one nearest the front (R49). `backToBack` says that a sweep
has ended at the same event (R182). -/
def State.look (s : State) (backToBack : Bool) : State :=
  if s.engine.isNone && !s.holdOn && s.active then
    match s.queue.find? s.eligible with
    | some r => s.takeRecord backToBack r
    | none => s
  else s

/-! ### The ending of a sweep (chapter 5) -/

/-- The outcome that names an ending (R85, R83, R94). -/
def Ending.outcome : Ending → SweepOutcome
  | .fit .noOpening => .noOpening
  | .fit (.found _ .committed) => .committed
  | .fit (.found _ .marginal) => .marginal
  | .fit (.found _ .confirmed) => .confirmed
  | .fit (.found _ .jump) => .jump
  | .fit (.found _ .failedJump) => .failedJump
  | .layFailed => .layFailed
  | .timeout => .timeout
  | .abortedSpindle => .abortedSpindle
  | .abortedSpinDown => .abortedSpinDown
  | .abortedPattern => .abortedPattern
  | .abortedReset => .abortedReset
  | .abortedPlanClear => .abortedPlan
  | .abortedPlanScope => .abortedPlan

/-- The state of an entry after a commit, by quality (R87). -/
def Quality.entryState : Quality → EntryState
  | .valid => .valid
  | .marginal => .marginal

/-- The subject after a commit (R87). -/
def Entry.commit (e : Entry) (o : Opening) : Entry :=
  { e with
    state := o.quality.entryState
    centre := some o.centre
    candidate := none
    width := o.width
    clipped := o.clipped
    drift := 0
    retries := 0
    age := 0 }

/-- The subject put back as it was: prior state, prior candidate (R90, R93, R94). -/
def Entry.restore (e : Entry) (c : Context) : Entry :=
  { e with state := c.priorState, candidate := c.priorCandidate }

/-- The subject after a failure: a first one restores it and spends the retry, a second one sends it to FAILED (R90,
R91). -/
def Entry.afterFailure (e : Entry) (c : Context) : Entry :=
  if e.retries = 0 then { e.restore c with retries := 1 }
  else { e with state := .failed, candidate := none, retries := 0 }

/-- The subject after an ending, its last outcome aside (R87 to R94). -/
def Entry.afterEnding (e : Entry) (c : Context) : Ending → Entry
  | .fit (.found o .committed) | .fit (.found o .marginal) | .fit (.found o .confirmed) => e.commit o
  | .fit (.found o .jump) => { e with state := .suspect, candidate := some o.centre }
  | .fit (.found _ .failedJump) => { e with state := .failed, candidate := none, retries := 0 }
  | .fit .noOpening | .layFailed | .timeout => e.afterFailure c
  | .abortedSpindle | .abortedSpinDown | .abortedPattern | .abortedReset | .abortedPlanScope => e.restore c
  | .abortedPlanClear => e

/-- The subject after an ending, its last outcome recorded; a clear leaves NONE (R86 step 1, R10). -/
def Entry.ended (e : Entry) (c : Context) (g : Ending) : Entry :=
  if g = .abortedPlanClear then e else { e.afterEnding c g with lastOutcome := some g.outcome }

/-- The cause with which an ending requeues its subject, judged on the entry before the ending (R95): none for commits,
FAILED_JUMP, a second failure and ABORTED_PLAN. -/
def Ending.requeue (g : Ending) (e : Entry) : Option Cause :=
  match g with
  | .fit (.found _ .committed) | .fit (.found _ .marginal) | .fit (.found _ .confirmed)
  | .fit (.found _ .failedJump) => none
  | .fit (.found _ .jump) => some .retry
  | .fit .noOpening | .layFailed | .timeout => if e.retries = 0 then some .retry else none
  | .abortedSpindle | .abortedSpinDown | .abortedPattern | .abortedReset => some .resume
  | .abortedPlanClear | .abortedPlanScope => none

/-- The opening an ending's record shows (R101). -/
def Ending.opening : Ending → Option Opening
  | .fit (.found o _) => some o
  | .fit .noOpening | .layFailed | .timeout | .abortedSpindle | .abortedSpinDown | .abortedPattern
  | .abortedReset | .abortedPlanClear | .abortedPlanScope => none

/-- The log with a record appended: the oldest leaves a full log (R102). -/
def appendLog (log : List ResultRec) (r : ResultRec) : List ResultRec :=
  if log.length < Config.logCapacity then log ++ [r] else log.tail ++ [r]

/-- The last curve after an ending: replaced by a fit outcome, else kept (R103). -/
def State.curveAfter (s : State) (c : Context) : Ending → Curve
  | .fit _ => ⟨c.curvePoints, s.nextSeq⟩
  | .layFailed | .timeout | .abortedSpindle | .abortedSpinDown | .abortedPattern | .abortedReset
  | .abortedPlanClear | .abortedPlanScope => s.curve

/-- What a left-over task keeps: the lay's supply if a lay was in flight (R98). -/
def Context.leftOver (c : Context) : Owner :=
  match c.flight with
  | some ⟨_, .lay, _, _⟩ => .leftOver (some c.laySupply)
  | some ⟨_, .point _, _, _⟩ | none => .leftOver none

/-- The port at an ending: a task of the sweep in flight becomes a left-over task with the timing it has (R97). -/
def Port.orphan (p : Port) (c : Context) : Port :=
  match p.state with
  | .sweep u .running e n => { p with state := .sweep u c.leftOver e n }
  | .aborting u .running e => { p with state := .aborting u c.leftOver e }
  | .sweep _ (.leftOver _) _ _ | .aborting _ (.leftOver _) _ | .free _ | .bench _ | .wedged _ _ => p

/-- SWMARK at the ending of a sweep: low in SWEEP mode, a gap before the sweep's own high interval dropped with it (R182;
DESIGN CHOICE, log 28). -/
def State.swmarkStop (s : State) : Swmark :=
  match s.plan.swmarkMode with
  | .sweep => ⟨false, none, none⟩
  | .off | .point => s.swmark

/-- Steps 1 to 5 of an ending: entry, sweeps-ended counter, result record, last curve, engine IDLE (R86). -/
def State.settleEnding (s : State) (c : Context) (g : Ending) : State :=
  let r : ResultRec := ⟨s.nextSeq, c.subject, c.cause, g.outcome, c.points, g.opening⟩
  { s.setEntry c.subject ((s.entry c.subject).ended c g) with
    counters := { s.counters with sweepsEnded := s.counters.sweepsEnded + 1 }
    log := appendLog s.log r
    nextSeq := s.nextSeq + 1
    curve := s.curveAfter c g
    engine := none
    port := s.port.orphan c
    swmark := s.swmarkStop
    blink := none }

/-- Step 6 of an ending: the requeue (R95). -/
def State.requeueSubject (s : State) (i : EntryNo) : Option Cause → State
  | none => s
  | some .resume => s.requestFront i
  | some cause => s.request i cause

/-- The ending of the running sweep without its look (R86 steps 1 to 6). With the engine IDLE it does nothing (R65). -/
def State.endSweepNoLook (s : State) (g : Ending) : State :=
  match s.engine with
  | none => s
  | some c => (s.settleEnding c g).requeueSubject c.subject (g.requeue (s.entry c.subject))

/-- The ending of the running sweep, look included (R86). With the engine IDLE it does nothing (R65). -/
def State.endSweep (s : State) (g : Ending) : State :=
  match s.engine with
  | none => s
  | some _ => (s.endSweepNoLook g).look true

/-- A sweep whose subject is on unit `u` ends, in ACTIVE mode; any other is left as it is (R65, R122, R145, R149). -/
def State.endSweepOn (s : State) (u : UnitNo) (g : Ending) : State :=
  match s.engine with
  | none => s
  | some c => if s.active ∧ unitOf c.subject = u then s.endSweep g else s

/-! ### Head-map events (chapter 1) -/

/-- The weight of a completion: how it moves a drift score within 0..255 (R13). `op` is the bench task's op; the
corrected indication belongs to READ only. -/
def driftAfter (op : Op) (c : Completion) (score : Nat) : Nat :=
  match c.status with
  | .good => if op = .read ∧ c.corrected then min 255 (score + 2) else score - 1
  | .error .data | .error .addressMark | .error .noSector => min 255 (score + 8)
  | .error .trackZero | .error .writeFault | .error .refused | .error .aborted => score

/-- Whether drift, age and staleness after a spin-up act on the entry: VALID or MARGINAL (R4). -/
def Entry.trusted (e : Entry) : Bool := decide (e.state = .valid) || decide (e.state = .marginal)

/-- A drift event for entry `i` (R12, R13, R14), with the engine's look if it asks for a sweep (R49). -/
def State.driftEvent (s : State) (i : EntryNo) (op : Op) (c : Completion) : State :=
  if s.plan.inScope i && (s.entry i).trusted then
    let score := driftAfter op c (s.entry i).drift
    if s.plan.driftLimit ≤ score then
      ((s.setEntry i { s.entry i with drift := score, state := .stale }).request i .drift).look false
    else s.setEntry i { s.entry i with drift := score }
  else s

/-- An in-scope trusted entry goes STALE and asks for a sweep; any other is left (R16, R17). -/
def State.goStale (cause : Cause) (s : State) (i : EntryNo) : State :=
  if s.plan.inScope i && (s.entry i).trusted then
    (s.setEntry i { s.entry i with state := .stale }).request i cause
  else s

/-- The staleness event of unit `u` after a spin-up: its entries in map order (R17). -/
def State.staleness (s : State) (u : UnitNo) : State :=
  (allEntries.filter fun i => decide (unitOf i = u)).foldl (State.goStale .spinUp) s

/-- Age at a second mark: up by 1 to 65535 while a centre is present (R15). -/
def Entry.older (e : Entry) : Entry :=
  if e.centre.isSome then { e with age := min 65535 (e.age + 1) } else e

/-- The age test of one entry (R16). -/
def State.testAge (s : State) (i : EntryNo) : State :=
  if s.plan.maxAge ≠ 0 ∧ s.plan.maxAge ≤ (s.entry i).age then s.goStale .age i else s

/-- A pattern-loss event for entry `i`: laid goes to no, and a sweep of it ends ABORTED_PATTERN (R21). -/
def State.patternLoss (s : State) (i : EntryNo) : State :=
  let t := s.setEntry i { s.entry i with laid := false }
  if t.isSubject i then t.endSweep .abortedPattern else t

/-- Every entry takes its cleared or changed value at once. -/
def State.mapEntries (s : State) (f : EntryNo → Entry → Entry) : State :=
  s.setEntries (Vector.ofFn fun i => f i s.entries[i])

/-! ### Spindle effects (chapter 8) -/

/-- An index pulse of unit `u` at the present: the monitor's work and what follows from it (R143 to R152). -/
def State.pulse (s : State) (u : UnitNo) : State :=
  let m := s.monitors.get u
  if m.accepts s.now then
    let (m', result) := m.pulse s.now s.plan.settleCount
    let s' := s.setMonitors (s.monitors.set u m')
    match result with
    | .quiet => s'
    | .unsettles => s'.endSweepOn u .abortedSpindle
    | .settles =>
      if m'.stopRemembered then
        let s'' := s'.staleness u
        (s''.setMonitors (s''.monitors.set u { m' with stopRemembered := false })).look false
      else s'.look false
  else s

/-- The stop timer of unit `u` at the present: when it has run out, the spindle is declared STOPPED and a sweep on the
unit ends ABORTED_SPINDLE (R145). -/
def State.stopTimer (s : State) (u : UnitNo) : State :=
  let m := s.monitors.get u
  if m.stopDue s.now then
    (s.setMonitors (s.monitors.set u m.declareStop)).endSweepOn u .abortedSpindle
  else s

/-- A SPIN DOWN issued to unit `u`: its monitor is told, and a sweep on the unit ends ABORTED_SPIN_DOWN (R122, R151). -/
def State.spinDownIssued (s : State) (u : UnitNo) : State :=
  (s.setMonitors (s.monitors.set u ((s.monitors.get u).spinDown s.now))).endSweepOn u .abortedSpinDown

end Sys2Proof.Machine
end

