-- ==== Sys2Proof/Machine/Flags.lean ====
section
/-! DEFINITION. The lines the part drives from its state: the handshake (R26), the READY and FAULT lamps (R183, R184),
and the SWMARK level at a change of mode and at a point grant (R182). -/

namespace Sys2Proof.Machine

/-- The handshake shows READY: the power-on interval over, no cable reset, the slot EMPTY (R26). -/
def State.benchReady (s : State) : Bool := !s.interval && !s.cableReset && s.slot.isNone

/-- The entries of unit `u` in scope. -/
def State.scopeEntries (s : State) (u : UnitNo) : List EntryNo :=
  allEntries.filter fun i => decide (unitOf i = u) && s.plan.inScope i

/-- The steady READY value: the unit has an in-scope entry and every one is VALID (R183 cases 2 and 3). An in-scope
entry's unit is enabled (R5). -/
def State.steadyReady (s : State) (u : UnitNo) : Bool :=
  !(s.scopeEntries u).isEmpty && (s.scopeEntries u).all fun i => decide ((s.entry i).state = .valid)

/-- Whether a sweep runs whose subject is on unit `u`. -/
def State.sweepOn (s : State) (u : UnitNo) : Bool :=
  match s.engine with
  | some c => decide (unitOf c.subject = u)
  | none => false

/-- The READY lamp of unit `u` (R183), dark during the power-on interval (R187). -/
def State.readyLampRule (s : State) (u : UnitNo) : Bool :=
  if s.interval then false
  else if s.sweepOn u then
    match s.blink with
    | some b => b.lit
    | none => false
  else s.steadyReady u

/-- The FAULT lamp of unit `u` (R184), dark during the power-on interval (R187). -/
def State.faultLampRule (s : State) (u : UnitNo) : Bool :=
  !s.interval &&
    (((s.scopeEntries u).any fun i => decide ((s.entry i).state = .failed)) || s.wedgedOn u)

/-- The pins as their rules give them. -/
def State.pinsRule (s : State) : Pins where
  benchReady := s.benchReady
  readyLamp := ⟨s.readyLampRule 0, s.readyLampRule 1⟩
  faultLamp := ⟨s.faultLampRule 0, s.faultLampRule 1⟩

/-- The pins are driven by their rules. -/
def State.drivePins (s : State) : State := { s with pins := s.pinsRule }

/-- SWMARK when a plan's mode takes effect: a changed mode gives the line its level and ends a pulse (R182, R169). -/
def State.swmarkForMode (s : State) (old : SwmarkMode) : Swmark :=
  if old = s.plan.swmarkMode then s.swmark
  else
    match s.plan.swmarkMode with
    | .off => ⟨false, none, none⟩
    | .sweep => ⟨s.engine.isSome, none, none⟩
    | .point => ⟨false, none, none⟩

/-- SWMARK at the grant of a sweep task: a 10 µs pulse for a point task in POINT mode (R182). -/
def State.swmarkAtGrant (s : State) (k : FlightKind) : Swmark :=
  match s.plan.swmarkMode, k with
  | .point, .point _ => ⟨true, none, some (s.now + Config.swmarkPulse)⟩
  | .point, .lay | .off, .lay | .off, .point _ | .sweep, .lay | .sweep, .point _ => s.swmark

/-- The end of the SWMARK gap (R182). -/
def Swmark.endGap (w : Swmark) (now : Nat) : Swmark :=
  match w.gapEnd with
  | some e => if e ≤ now then { w with level := true, gapEnd := none } else w
  | none => w

/-- The end of the SWMARK pulse (R182). -/
def Swmark.endPulse (w : Swmark) (now : Nat) : Swmark :=
  match w.pulseEnd with
  | some e => if e ≤ now then { w with level := false, pulseEnd := none } else w
  | none => w

/-- An edge of the READY blink (R183). -/
def Blink.edge (b : Blink) (now : Nat) : Blink :=
  if b.next ≤ now then ⟨!b.lit, b.next + Config.blinkHalf⟩ else b

/-- The HOLD line after its raw level becomes `low`: the timer runs while the level differs from the debounced state
and is cleared when it matches; a timer already running goes on (R185). -/
def HoldLine.change (h : HoldLine) (low : Bool) (now : Nat) : HoldLine :=
  if low = h.asserted then { h with rawLow := low, timer := none }
  else
    { h with
      rawLow := low
      timer := match h.timer with
        | some e => some e
        | none => some (now + Config.debounce) }

/-- Whether the debounce timer has reached 20 ms (R185). -/
def HoldLine.due (h : HoldLine) (now : Nat) : Bool :=
  match h.timer with
  | some e => decide (e ≤ now)
  | none => false

/-- The HOLD line at the end of the debounce: the debounced state changes (R185). -/
def HoldLine.settle (h : HoldLine) : HoldLine := { h with asserted := !h.asserted, timer := none }

end Sys2Proof.Machine
end

