-- ==== Sys2Proof/Machine/Port.lean ====
section
/-! DEFINITION. The port arbiter (chapter 7) and what issuing a task to a drive does (R114, R117, R121, R122, R157). -/

namespace Sys2Proof.Machine

/-- The offset an entry gives a bench read: its centre, or 0 when absent (R7). -/
def State.offsetFor (s : State) (i : EntryNo) : Int := (s.entry i).centre.getD 0

/-- The record of a piece: the bench's unit, op and retry, CHS, the piece's start and count, and the offset of its entry
when in scope, else 0 (R117). -/
def State.pieceTask (s : State) (t : Task) (p : Piece) : Task where
  op := t.op
  fields :=
    { t.fields with
      addressing := .chs
      cylinder := p.start.cylinder
      head := Fin.ofNat 16 p.start.head
      sector := p.start.sector
      count := p.count
      offset := if p.inScope then s.offsetFor p.entry else 0 }

/-- Whether a TASK phase opens to unit `u`: unless its drive shows not ready. To a unit with no drive attached it opens
and is not answered (R25). -/
def State.opensTask (s : State) (u : UnitNo) : Bool := decide (s.driveShows.get u ≠ .notReady)

/-- A task is given to the drive side; its TASK phase opens at once unless its drive shows not ready, when it waits
unopened (R25). -/
def State.putOnDrive (s : State) (t : Task) : State :=
  s.setPort { s.port with task := some ⟨t, s.opensTask t.fields.unit⟩ }

/-- Whether the drive side holds a task that is open to an attached drive, so that sectors and a completion can pass: the
DATA and COMPLETION phases follow the TASK phase (R24), and a unit with no drive attached answers nothing (R25). A task
open when its unit comes to show not ready stays open and answered (DESIGN CHOICE, log 30). -/
def State.driveAnswers (s : State) : Bool :=
  match s.port.task with
  | some d => d.opened && decide (s.driveShows.get d.task.fields.unit ≠ .absent)
  | none => false

/-- The piece at a sequencer's cursor is issued: the cursor moves on and the piece's count leaves the outstanding count
(R117). -/
def Sequencer.afterIssue (q : Sequencer) (p : Piece) : Sequencer :=
  { q with cursor := q.cursor + 1, outstanding := q.outstanding - p.count }

/-- The next piece of the SPLIT task `b` with sequencer `q` is issued (R117); with no piece left nothing is. -/
def State.issuePiece (s : State) (b : BenchTask) (q : Sequencer) : State :=
  match q.pieces[q.cursor]? with
  | some p =>
    (s.setSlot (some { b with disp := .split (q.afterIssue p) })).putOnDrive (s.pieceTask b.task p)
  | none => s

/-- The effects inside the part of issuing a bench task to a drive: the overlap check of a WRITE in ACTIVE mode, in map
order (R121), and a SPIN DOWN's notice (R122). -/
def State.issueEffects (s : State) (t : Task) : State :=
  match t.op with
  | .write =>
    if s.active then
      (allEntries.filter (writeOverlaps s.plan (s.geometry.get t.fields.unit) t.fields)).foldl State.patternLoss s
    else s
  | .spinDown => s.spinDownIssued t.fields.unit
  | .read | .readRaw | .verify | .seek | .home | .setGeometry | .setOption | .spinUp | .powerQuery | .identify => s

/-- The bench task `b` is issued at the grant: PASS and SNOOP as the bench sent it, APPLY with its entry's offset, SPLIT
its first piece; a SNOOP empties plan intake's copy (R114, R117, R131, R157). -/
def State.issueBench (s : State) (b : BenchTask) : State :=
  match b.disp with
  | .pass | .localAnswer _ => (s.putOnDrive b.task).issueEffects b.task
  | .apply i => s.putOnDrive { b.task with fields := { b.task.fields with offset := s.offsetFor i } }
  | .split q => s.issuePiece b q
  | .snoop _ => ({ s with copy := {} }.putOnDrive b.task).issueEffects b.task

/-- The grace-run count at a bench grant: up by 1, to 255, when a grace runs and the engine is asking (R134). -/
def State.graceRunAtGrant (s : State) (grace : Option Nat) : Nat :=
  if grace.isSome && s.sweepReady then min 255 (s.port.graceRun + 1) else s.port.graceRun

/-- A grant to the bench slot: the port goes BENCH, the slot ISSUED, and the task is issued (R131). -/
def State.grantBench (s : State) (b : BenchTask) (grace : Option Nat) : State :=
  let b := { b with phase := .issued }
  let s := s.setPort { s.port with state := .bench b.task.fields.unit, graceRun := s.graceRunAtGrant grace }
  (s.setSlot (some b)).issueBench b

/-- A grant to the sweep engine: the port goes SWEEP with the task's expiry time, the grace-run count returns to 0, the
task is in flight (R132, R62), and SWMARK marks a point grant in POINT mode (R182). -/
def State.grantSweep (s : State) (c : Context) : State :=
  let f := c.nextFlight
  let u := unitOf c.subject
  let p : Port :=
    { s.port with
      state := .sweep u .running (s.now + c.taskTimeout * Config.timeoutUnit) c.taskTimeout
      graceRun := 0 }
  let s := { s with engine := some { c with flight := some f }, swmark := s.swmarkAtGrant f.kind }
  (s.setPort p).putOnDrive f.task

/-- The bench slot's request: a task in WAITING (R129). -/
def State.benchAsks (s : State) : Option BenchTask :=
  match s.slot with
  | some b => if b.phase = .waiting then some b else none
  | none => none

/-- The grant decision (R130): in FREE the bench slot first; else the engine when it asks and no grace runs. -/
def State.arbitrate (s : State) : State :=
  match s.port.state with
  | .free grace =>
    match s.benchAsks with
    | some b => s.grantBench b grace
    | none =>
      match s.engine with
      | some c => if s.sweepReady && grace.isNone then s.grantSweep c else s
      | none => s
  | .bench _ | .sweep _ _ _ _ | .aborting _ _ _ | .wedged _ _ => s

/-- The port made FREE: no task, the drive-side abort released (R131, R138, R140). -/
def State.freePort (s : State) (grace : Option Nat) : State :=
  s.setPort { s.port with state := .free grace, abort := false, task := none }

/-- The grace that starts when a bench task frees the port: G above 0 and the grace-run count below B (R133). -/
def State.graceStart (s : State) : Option Nat :=
  if 0 < s.plan.benchGrace ∧ s.port.graceRun < s.plan.graceLimit then
    some (s.now + s.plan.benchGrace * Config.ms)
  else none

/-- The completion of the sweep task on the port is taken for its end: the port goes FREE with no grace and nothing is
in flight (R132, R138). -/
def State.sweepTaskDone (s : State) : State :=
  (s.setEngine (s.engine.map fun c => { c with flight := none })).freePort none

end Sys2Proof.Machine
end

