-- ==== Sys2Proof/Machine/Plan.lean ====
section
/-! DEFINITION. Plan intake on State: the take of a plan in its six steps (R164 to R169) and the judgement of the copy at
the completion of a SNOOP task (R158). -/

namespace Sys2Proof.Machine

/-- Whether a zone is redefined by a take: it lies at or above the new zone count, or below it and at or above the old,
or its row differs (R165). -/
def redefines (old new : Plan) (z : ZoneNo) : Bool :=
  decide (new.zoneCount ≤ z.val) || decide (old.zoneCount ≤ z.val) || decide (old.zones[z] ≠ new.zones[z])

/-- The entries that `gone` names are cleared, their records leave the queue, and a sweep of one of them ends
ABORTED_PLAN; the re-offer follows (R19, R20, R165, R167, R46). -/
def State.clearEntries (s : State) (gone : EntryNo → Bool) : State :=
  let cleared := (s.mapEntries fun i e => if gone i then {} else e).setQueue
    (s.queue.filter fun r => !gone r.entry)
  let ended :=
    match cleared.engine with
    | some c => if gone c.subject then cleared.endSweepNoLook .abortedPlanClear else cleared
    | none => cleared
  ended.reoffer

/-- Step 1 of a take: zone redefinition (R165). -/
def State.redefineZones (s : State) (old : Plan) : State :=
  s.clearEntries fun i => redefines old s.plan (zoneOf i)

/-- Step 2 of a take: entries out of scope lose their queue record and wanted cause, and a sweep of one ends
ABORTED_PLAN with its subject put back; the re-offer follows (R166, R6, R94). -/
def State.applyScope (s : State) : State :=
  let out : EntryNo → Bool := fun i => !s.plan.inScope i
  let dropped := (s.mapEntries fun i e => if out i then { e with wanted := none } else e).setQueue
    (s.queue.filter fun r => !out r.entry)
  let ended :=
    match dropped.engine with
    | some c => if out c.subject then dropped.endSweepNoLook .abortedPlanScope else dropped
    | none => dropped
  ended.reoffer

/-- Step 3 of a take: CLEAR MAP, if the action set holds it (R167). -/
def State.applyClearMap (s : State) : State :=
  if s.plan.actions.clearMap then s.clearEntries fun _ => true else s

/-- QUEUE ALL for one entry: in scope and not MEASURING, a FAILED one goes STALE, and it asks with cause PLAN (R18). -/
def State.queueOne (s : State) (i : EntryNo) : State :=
  let e := s.entry i
  if s.plan.inScope i && !decide (e.state = .measuring) then
    (s.setEntry i (if e.state = .failed then { e with state := .stale } else e)).request i .plan
  else s

/-- The plan part of the hold condition after a take: HOLD is applied, then RELEASE (R168). -/
def planHoldAfter (a : Actions) (held : Bool) : Bool :=
  if a.release then false else if a.hold then true else held

/-- Step 4 of a take: QUEUE ALL in map order, then HOLD and RELEASE (R168). -/
def State.applyActions (s : State) : State :=
  let queued := if s.plan.actions.queueAll then allEntries.foldl State.queueOne s else s
  { queued with planHold := planHoldAfter s.plan.actions s.planHold }

/-- A taken plan: it replaces the plan in force whole, then the six steps follow, each seeing the one before (R164). The
sweep that a step ends leaves its look to step 6; SWMARK shows the gap when that look takes a record and the line was
under SWEEP mode at the ending (R182, DEDUCED, log 12). -/
def State.takePlan (s : State) (p : Plan) : State :=
  let old := s.plan
  let afterClears := (({ s with plan := p }.redefineZones old).applyScope).applyClearMap
  let acted := afterClears.applyActions
  let moded := acted.setSwmark (acted.swmarkForMode old.swmarkMode)
  moded.look (s.engine.isSome && afterClears.engine.isNone && decide (old.swmarkMode = .sweep))

/-- Plan intake acts on the copy at the completion of a SNOOP task: a complete copy is judged, the event recorded and a
taken plan taken; an incomplete one is discarded (R158, R163). -/
def State.judgeCopy (s : State) : State :=
  let s' := { s with copy := {} }
  if s.copy.complete then
    let j := judge s.copy.bytes
    let recorded := { s' with planEvent := j.event }
    match j with
    | .taken p _ => recorded.takePlan p
    | .ignored | .refused _ _ => recorded
  else s'

end Sys2Proof.Machine
end

