-- ==== Sys2Proof/Machine/Report.lean ====
section
/-! DEFINITION. The report generator (chapter 10): the snapshot (R173) and the service-area sectors as served (R171 to
R181), with the codes of R177. -/

namespace Sys2Proof.Machine

/-! ### Codes (R177) -/

def EntryState.code : EntryState → Nat
  | .unmeasured => 0 | .measuring => 1 | .valid => 2 | .marginal => 3 | .suspect => 4 | .stale => 5 | .failed => 6

def SweepOutcome.code : SweepOutcome → Nat
  | .committed => 1 | .marginal => 2 | .confirmed => 3 | .jump => 4 | .failedJump => 5 | .noOpening => 6
  | .layFailed => 7 | .timeout => 8 | .abortedSpindle => 9 | .abortedSpinDown => 10 | .abortedPattern => 11
  | .abortedReset => 12 | .abortedPlan => 13

def Cause.code : Cause → Nat
  | .plan => 1 | .drift => 2 | .age => 3 | .spinUp => 4 | .retry => 5 | .resume => 6

def SpindleState.code : SpindleState → Nat
  | .unknown => 0 | .spinningUp => 1 | .settled => 2 | .stopping => 3 | .stopped => 4

def PortView.code : PortView → Nat
  | .free => 0 | .bench _ => 1 | .sweep _ => 2 | .aborting _ => 3 | .wedged _ => 4

/-- The unit shown with a port state, 0 when FREE (R179). -/
def PortView.unitNo : PortView → Nat
  | .free => 0 | .bench u | .sweep u | .aborting u | .wedged u => u.val

def SweepPhase.code : SweepPhase → Nat
  | .laying => 1 | .sweeping => 2

def PlanResult.code : PlanResult → Nat
  | .none => 0 | .taken => 1 | .takenClamped => 2 | .refused => 3 | .ignored => 4

def RefusalCause.code : RefusalCause → Nat
  | .check => 1 | .range => 2 | .zones => 3 | .testcyl => 4 | .count => 5

/-- An absent named value is code 0 (R177). -/
def optCode {α : Type} (code : α → Nat) (o : Option α) : Nat := (o.map code).getD 0

/-! ### The snapshot (R173) -/

/-- The port state as reported (R128). -/
def PortState.view : PortState → PortView
  | .free _ => .free
  | .bench u => .bench u
  | .sweep u _ _ _ => .sweep u
  | .aborting u _ _ => .aborting u
  | .wedged u _ => .wedged u

/-- The running sweep as reported: pass and point are 0 in LAYING (R68). -/
def Context.view (c : Context) : EngineView where
  phase := c.phase
  subject := c.subject
  cause := c.cause
  pass := match c.phase with
    | .laying => 0
    | .sweeping => c.pass
  point := match c.phase with
    | .laying => 0
    | .sweeping => c.point

/-- A unit as reported (R155, R109, R173). -/
def State.unitView (s : State) (u : UnitNo) : UnitView :=
  ⟨(s.monitors.get u).state, (s.monitors.get u).lastPeriod, s.geometry.get u, s.wedgedOn u⟩

/-- A copy of every reportable item as it stands (R173). -/
def State.takeView (s : State) : Snapshot where
  timeBase := s.now / Config.ms
  planNumber := s.plan.number
  planEvent := s.planEvent
  holdLine := s.holdLine.asserted
  holdPlan := s.planHold
  service := s.straps.service
  units := ⟨s.unitView 0, s.unitView 1⟩
  engine := s.engine.map Context.view
  port := s.port.state.view
  graceRun := s.port.graceRun
  counters := s.counters
  queue := s.queue
  entries := s.entries
  curve := s.curve
  log := s.log

/-- The snapshot number after a new snapshot: after 65535 it goes to 1 (R173). -/
def nextSnapNumber (n : Nat) : Nat := if n = 65535 then 1 else n + 1

/-- A new snapshot replaces the old one whole (R173). -/
def State.takeSnapshot (s : State) : State :=
  { s with snapshot := some s.takeView, snapNumber := nextSnapNumber s.snapNumber }

/-! ### Layouts (R179, R180, R181) -/

/-- The 16-byte report head (R179). -/
def reportHead (snapNumber sector timeBase : Nat) : List Byte :=
  le16 Config.reportSignature.1 ++ le16 Config.reportSignature.2 ++ le16 snapNumber
    ++ [byte sector, 0] ++ le32 timeBase ++ zeros 4

/-- A unit block of sector 2 (R179). -/
def unitBlock (v : UnitView) : List Byte :=
  [byte v.spindle.code, byte (bit v.geometry.isSome 1 + bit v.wedged 2),
   byte ((v.geometry.map Geometry.heads).getD 0), byte ((v.geometry.map Geometry.sectors).getD 0)]
    ++ le32 (v.lastPeriod.getD 0)

/-- Bytes 40 to 47 of sector 2: the engine (R179). -/
def engineBlock : Option EngineView → List Byte
  | none => zeros 8
  | some e =>
    [byte e.phase.code, byte (unitOf e.subject).val, byte (headOf e.subject).val, byte (zoneOf e.subject).val,
     byte e.cause.code, byte e.pass, byte e.point, 0]

/-- A queue record of sector 2 (R179). -/
def queueRecBytes (r : QueueRec) : List Byte :=
  [byte (unitOf r.entry).val, byte (headOf r.entry).val, byte (zoneOf r.entry).val, byte r.cause.code]

/-- The counters of sector 2 (R179). -/
def counterBytes (c : Counters) : List Byte :=
  le32 c.passed.toNat ++ le32 c.applied.toNat ++ le32 c.split.toNat ++ le32 c.localAnswers.toNat
    ++ le32 c.untranslated.toNat ++ le32 c.sweepsEnded.toNat

/-- Sector 2 behind its report head: header and queue (R179). -/
def headerBody (v : Snapshot) : List Byte :=
  le16 v.planNumber ++ le16 v.planEvent.number
    ++ [byte v.planEvent.result.code, byte (optCode RefusalCause.code v.planEvent.cause),
        byte (bit v.holdLine 1 + bit v.holdPlan 2), v.service]
    ++ unitBlock v.units.u0 ++ unitBlock v.units.u1
    ++ engineBlock v.engine
    ++ [byte v.port.code, byte v.port.unitNo, byte v.graceRun, 0]
    ++ counterBytes v.counters
    ++ [byte v.queue.length] ++ zeros 3
    ++ v.queue.flatMap queueRecBytes

/-- The clip flags of an entry or record: LOW weighs `low`, HIGH weighs `high` (R180, R181). -/
def Clip.flags (c : Clip) (low high : Nat) : Nat :=
  match c with
  | .none => 0
  | .low => low
  | .high => high
  | .both => low + high

/-- A head-map entry of sectors 3 to 6 (R180). -/
def entryBytes (e : Entry) : List Byte :=
  [byte e.state.code,
   byte (bit e.centre.isSome 1 + bit e.candidate.isSome 2 + bit e.laid 4 + bit e.wanted.isSome 8
     + e.clipped.flags 16 32),
   signedByte (e.centre.getD 0), signedByte (e.candidate.getD 0)]
    ++ le16 e.width ++ [byte e.drift, byte e.retries] ++ le16 e.age
    ++ [byte (optCode SweepOutcome.code e.lastOutcome), byte (optCode Cause.code e.wanted)]

/-- The thirty-two entries of sector `n`, 3 to 6, in map order (R180). -/
def mapBody (v : Snapshot) (n : Nat) : List Byte :=
  ((v.entries.toList.drop ((n - 3) * 32)).take 32).flatMap entryBytes

/-- Sector 7 behind its report head: the last curve (R181). -/
def curveBody (c : Curve) : List Byte :=
  le16 c.seq.toNat ++ [byte c.points.length] ++ zeros 5
    ++ c.points.flatMap fun p => signed16 p.1 ++ le32 p.2

/-- The fit fields of a result record, 0 when absent (R181). -/
def openingBytes : Option Opening → List Byte
  | some o => [byte (1 + o.clipped.flags 2 4), signedByte o.centre] ++ le16 o.width ++ signed16 o.edgeL
      ++ signed16 o.edgeR
  | none => zeros 8

/-- A result record of sector 8 (R181). -/
def resultBytes (r : ResultRec) : List Byte :=
  le16 r.seq.toNat
    ++ [byte (unitOf r.entry).val, byte (headOf r.entry).val, byte (zoneOf r.entry).val, byte r.cause.code,
        byte r.outcome.code, byte r.points]
    ++ openingBytes r.opening

/-- Sector 8 behind its report head: the result log, oldest first (R181). -/
def logBody (log : List ResultRec) : List Byte :=
  padTo 480 (log.flatMap resultBytes) ++ [byte log.length]

/-- What follows the report head in sector `n` of a snapshot (R172). -/
def reportBody (v : Snapshot) (n : Nat) : List Byte :=
  if n = 2 then headerBody v
  else if n = 7 then curveBody v.curve
  else if n = 8 then logBody v.log
  else mapBody v n

/-- Report sector `n`, 2 to 8, from the snapshot; from the empty snapshot its signature and sector number, all else 0
(R174, R179). -/
def State.reportSector (s : State) (n : Nat) : List Byte :=
  match s.snapshot with
  | none => padTo 512 (reportHead 0 n 0)
  | some v => padTo 512 (reportHead s.snapNumber n v.timeBase ++ reportBody v n)

/-- Service-area sector `n` as served now: sector 1 live, the others from the snapshot (R172). -/
def State.serviceSector (s : State) (n : Nat) : List Byte :=
  if n = 1 then planSector s.plan else s.reportSector n

/-- What the bench receives of service-area sector `n`: 512 bytes for READ, 520 for READ RAW, nothing for VERIFY
(R171). -/
def State.localSector (s : State) (op : Op) (n : Nat) : List Byte :=
  match op with
  | .readRaw => s.serviceSector n ++ zeros 8
  | .read => s.serviceSector n
  | .verify | .write | .seek | .home | .setGeometry | .setOption | .spinUp | .spinDown | .powerQuery | .identify => []

/-- Service-area sector `n` passes to the bench (R171). -/
def State.passLocal (s : State) (op : Op) (n : Nat) : State := { s with benchData := s.localSector op n }

/-- The GOOD completion of a LOCAL task (R171). -/
def State.localGood (s : State) (sectors : List Nat) : Completion :=
  { status := .good, corrected := false, remaining := 0,
    last := ⟨serviceCylinder s.straps.service, 0, sectors.getLastD 1⟩ }

/-- The ABORTED completion of a LOCAL task with `passed` sectors delivered (R175). -/
def State.localAborted (s : State) (b : BenchTask) (sectors : List Nat) : Completion :=
  { status := .error .aborted, corrected := false, remaining := b.task.fields.count - b.passed,
    last := if b.passed = 0 then startAddress (s.geometry.get b.task.fields.unit) b.task
      else ⟨serviceCylinder s.straps.service, 0, sectors.getD (b.passed - 1) 1⟩ }

end Sys2Proof.Machine
end

