-- ==== Sys2Proof/Machine/Event.lean ====
section
/-! DEFINITION. What every command shares: a waiting presentation is taken when READY shows (R26), the arbiter decides
(R130), and the pins follow (chapter 11); and the completion of a bench task, whole or in pieces (R115 to R126, R131). -/

namespace Sys2Proof.Machine

/-! ### Taking a bench task (R26, R105) -/

/-- The disposition of a task and the counter it moves, by mode (R104, R105). -/
def State.dispositionOf (s : State) (t : Task) : Disposition × CounterName :=
  if s.active then activeDisposition s.plan (s.geometry.get t.fields.unit) s.straps.service t
  else (.pass, .passed)

/-- Whether a LOCAL task's sectors include sector 2, so that it takes a snapshot (R173). -/
def coversHeader (sectors : List Nat) : Bool := sectors.any fun n => decide (n = 2)

/-- The bench slot takes a task record: one counter moves, and the slot passes through DISPOSING to LOCAL (with a
snapshot when sector 2 is covered) or to WAITING (R26, R105, R127, R171, R173). A LOCAL VERIFY passes through LOCAL to
COMPLETING in this one step, since its completion goes out at once (R171); an abort that catches it in LOCAL (R175) comes
as a BENCH_ABORT that says so (DESIGN CHOICE, log 27). -/
def State.takeTask (s : State) (t : Task) : State :=
  let (d, name) := s.dispositionOf t
  let s := { s with counters := s.counters.bump name }
  let b : BenchTask := { task := t, disp := d, phase := .disposing }
  match d with
  | .localAnswer sectors =>
    let s := if coversHeader sectors then s.takeSnapshot else s
    let phase := if t.op = .verify then .completing (s.localGood sectors) else .localAnswer
    s.setSlot (some { b with phase := phase })
  | .pass | .apply _ | .split _ | .snoop _ => s.setSlot (some { b with phase := .waiting })

/-- A task record the bench holds at the start of its TASK phase is taken when READY shows (R26). -/
def State.takePresented (s : State) : State :=
  match s.presented with
  | [] => s
  | t :: rest => if s.benchReady then { s with presented := rest }.takeTask t else s

/-- The bench presents a task record (R26). -/
def State.present (s : State) (t : Task) : State := { s with presented := s.presented ++ [t] }

/-- What ends every command: a presentation is taken if READY shows, the arbiter decides, the pins follow. -/
def State.finish (s : State) : State := s.takePresented.arbitrate.drivePins

/-- A bench task presented at time `t`. -/
def State.benchTask (s : State) (t : Nat) (op : Op) (f : TaskFields) : State :=
  ((s.advance t).present ⟨op, f⟩).finish

/-! ### Completions of bench tasks -/

/-- A bench task gives up the port with completion `c` for the bench: the slot goes to COMPLETING, the port FREE with
the grace that starts then (R131, R133, R118). -/
def State.releaseBench (s : State) (b : BenchTask) (c : Completion) : State :=
  (s.freePort s.graceStart).setSlot (some { b with phase := .completing c })

/-- The geometry row after the completion of a SET GEOMETRY (R112). -/
def learnGeometry (f : TaskFields) (c : Completion) (row : Option Geometry) : Option Geometry :=
  match c.status with
  | .good =>
    if 1 ≤ f.headsOperand ∧ f.headsOperand ≤ 16 ∧ 1 ≤ f.sectorsOperand ∧ f.sectorsOperand ≤ 255 then
      some ⟨f.headsOperand, f.sectorsOperand⟩
    else none
  | .error _ => row

/-- The part watches the completion of a SET GEOMETRY in ACTIVE mode (R112, R104). -/
def State.watchGeometry (s : State) (t : Task) (c : Completion) : State :=
  let u := t.fields.unit
  if s.active ∧ t.op = .setGeometry then
    { s with geometry := s.geometry.set u (learnGeometry t.fields c (s.geometry.get u)) }
  else s

/-- What the completion of a whole bench task does inside the part before it is passed to the bench: geometry learning
(R112), the drift event of an APPLY (R115), plan intake's judgement of a SNOOP (R158). -/
def State.watchCompletion (s : State) (b : BenchTask) (c : Completion) : State :=
  match b.disp with
  | .apply i => s.driftEvent i b.task.op c
  | .snoop _ => s.judgeCopy
  | .pass | .split _ | .localAnswer _ => s.watchGeometry b.task c

/-- The drive's completion `c` of the whole bench task `b` (R131, R27). -/
def State.wholeDone (s : State) (b : BenchTask) (c : Completion) : State :=
  (s.watchCompletion b c).releaseBench b c

/-- The piece in flight: the one before the cursor (R116, R117). -/
def Sequencer.inFlight (q : Sequencer) : Option Piece :=
  if q.cursor = 0 then none else q.pieces[q.cursor - 1]?

/-- The drift event of a completed piece, raised when its entry is in scope (R120). -/
def State.pieceDrift (s : State) (op : Op) (p : Piece) (c : Completion) : State :=
  if p.inScope then s.driftEvent p.entry op c else s

/-- The merged completion when a piece has ended ERROR (R119). -/
def mergedError (q : Sequencer) (c : Completion) : Completion :=
  { status := c.status, corrected := q.corrected, remaining := c.remaining + q.outstanding, last := c.last }

/-- The merged completion when an abort has stopped the list at a GOOD piece (R126). -/
def mergedAborted (q : Sequencer) (c : Completion) : Completion :=
  { status := .error .aborted, corrected := q.corrected, remaining := q.outstanding, last := c.last }

/-- The merged completion when the last piece has ended GOOD (R118). -/
def mergedGood (q : Sequencer) (c : Completion) : Completion :=
  { status := .good, corrected := q.corrected, remaining := 0, last := c.last }

/-- The drive's completion `c` of piece `p` of the SPLIT task `b` with sequencer `q`: its drift event, then the next
piece or one merged completion (R118, R119, R120, R126). A bench abort that has been forwarded to the piece, or that comes
behind its GOOD completion and finds no piece in flight, stops the list; behind the last completion of the list it finds
the merged record on its way (R26; DESIGN CHOICE, log 26). -/
def State.pieceDone (s : State) (b : BenchTask) (q : Sequencer) (p : Piece) (c : Completion) (abortBehind : Bool) :
    State :=
  let q := { q with corrected := q.corrected || c.corrected }
  let b := { b with disp := .split q }
  let s := s.pieceDrift b.task.op p c
  match c.status with
  | .error _ => s.releaseBench b (mergedError q c)
  | .good =>
    if q.cursor < q.pieces.length then
      if b.abort || abortBehind then s.releaseBench { b with abort := true } (mergedAborted q c) else s.issuePiece b q
    else s.releaseBench b (mergedGood q c)

/-- The completion taken for a withheld piece (R125). -/
def pieceWithheld (p : Piece) : Completion :=
  { status := .error .aborted, corrected := false, remaining := p.count, last := p.start }

/-- Whether the task granted on the drive side has opened its TASK phase (R25). -/
def State.driveOpened (s : State) : Bool :=
  match s.port.task with
  | some d => d.opened
  | none => false

/-- The task `b` once a bench abort is forwarded: a sector of a WRITE already moving at the first such abort is still to
be finished (R38; DESIGN CHOICE, log 29). -/
def BenchTask.forwarded (b : BenchTask) (moving : Bool) : BenchTask :=
  { b with abort := true, finishing := if b.abort then b.finishing else moving }

/-- A bench abort of the ISSUED task `b`: forwarded to the drive, or, when its TASK phase has not opened, the task is
withheld and the withholding taken as the drive's completion (R125, R126). -/
def State.abortIssued (s : State) (b : BenchTask) (moving : Bool) : State :=
  if s.driveOpened then (s.setPort { s.port with abort := true }).setSlot (some (b.forwarded moving))
  else
    let b := { b with abort := true }
    match b.disp with
    | .split q =>
      match q.inFlight with
      | some p => s.pieceDone b q p (pieceWithheld p) false
      | none => s.setSlot (some b)
    | .pass | .apply _ | .localAnswer _ | .snoop _ =>
      s.wholeDone b (endedInside (s.geometry.get b.task.fields.unit) b.task)

/-- A bench abort of the LOCAL answer `b`: a sector already moving is finished, no further one is delivered, and the
ABORTED completion goes out (R175). -/
def State.localAborts (s : State) (b : BenchTask) (sectors : List Nat) (moving : Bool) : State :=
  let b := if moving then { b with passed := b.passed + 1 } else b
  let s := if moving then s.passLocal b.task.op (sectors.getD (b.passed - 1) 0) else s
  s.setSlot (some { b with phase := .completing (s.localAborted b sectors) })

/-- A bench abort that finds the slot in COMPLETING: no task to end (R26), but for a LOCAL VERIFY, which the model takes
through LOCAL in the step that takes it: an abort that reached it there, before its record began to go out, gives the
ABORTED record with the full count (R171, R175; DESIGN CHOICE, log 27). -/
def State.completingAborts (s : State) (b : BenchTask) (beforeRecord : Bool) : State :=
  match b.disp with
  | .localAnswer sectors =>
    if beforeRecord ∧ b.task.op = .verify then s.localAborts b sectors false else s
  | .pass | .apply _ | .split _ | .snoop _ => s

/-- A bench abort, by the state of the slot (R26, R124, R125, R126, R175). -/
def State.benchAborts (s : State) (moving beforeRecord : Bool) : State :=
  match s.slot with
  | none => s
  | some b =>
    match b.phase with
    | .waiting =>
      let c := endedInside (s.geometry.get b.task.fields.unit) b.task
      s.setSlot (some { b with phase := .completing c })
    | .localAnswer =>
      match b.disp with
      | .localAnswer sectors => s.localAborts b sectors moving
      | .pass | .apply _ | .split _ | .snoop _ => s
    | .issued => s.abortIssued b moving
    | .completing _ => s.completingAborts b beforeRecord
    | .disposing => s

/-- The bench task ISSUED on the drive side, when there is one. -/
def State.issuedTask (s : State) : Option BenchTask :=
  match s.slot with
  | some b => if b.phase = .issued then some b else none
  | none => none

/-- The bench task ISSUED on the drive side while its drive answers (R24, R25). -/
def State.answeredTask (s : State) : Option BenchTask := if s.driveAnswers then s.issuedTask else none

/-! ### Completions of sweep tasks -/

/-- Whether the port holds a task of the running sweep in SWEEP (R128). -/
def PortState.runningSweep : PortState → Bool
  | .sweep _ .running _ _ => true
  | .sweep _ (.leftOver _) _ _ | .free _ | .bench _ | .aborting _ _ _ | .wedged _ _ => false

/-- A left-over task's completion frees the port, from SWEEP or ABORTING (R98). -/
def PortState.leftOverTask : PortState → Bool
  | .sweep _ (.leftOver _) _ _ | .aborting _ (.leftOver _) _ => true
  | .sweep _ .running _ _ | .aborting _ .running _ | .free _ | .bench _ | .wedged _ _ => false

/-- The lay WRITE of the running sweep has completed (R54). -/
def State.layDone (s : State) (c : Context) (st : Status) : State :=
  let s := s.sweepTaskDone
  match st with
  | .good =>
    let swept := { c with
      flight := none, phase := .sweeping, pass := 1, position := 0, sums := List.replicate c.points 0 }
    (s.setEntry c.subject { s.entry c.subject with laid := true }).setEngine (some swept)
  | .error _ => s.endSweep .layFailed

/-- The point task `f` for point `i` of the running sweep has completed: its charge joins the sum and the cursor
advances, or the curve is complete and the sweep ends with its fit (R61, R58, R64). -/
def State.pointDone (s : State) (c : Context) (f : Flight) (i : Nat) (st : Status) : State :=
  let counted := { c with flight := none, sums := addSum c.sums i (c.pointCharge f st) }
  let s := s.sweepTaskDone
  match counted.advance with
  | some next => s.setEngine (some next)
  | none => (s.setEngine (some counted)).endSweep (.fit counted.fit)

/-- The task in ABORTING has completed or been withheld: the port goes FREE, and a running sweep whose task it is ends
TIMEOUT (R138). -/
def State.abortingDone (s : State) (owner : Owner) : State :=
  match owner with
  | .running => s.sweepTaskDone.endSweep .timeout
  | .leftOver _ => s.freePort none

/-- The sector the part supplies at place `q` of the lay WRITE on the port, in its DATA phase, while it is a running
sweep's (R53) or left over (R98); its K sectors and no more (DEDUCED, log 20). -/
def State.laySector (s : State) (q : Nat) : Option (List Byte) :=
  if s.driveAnswers then
    match s.port.state with
    | .sweep _ (.leftOver l) _ _ | .aborting _ (.leftOver l) _ | .wedged _ l => l.bind (·.sector q)
    | .sweep _ .running _ _ | .aborting _ .running _ =>
      match s.engine with
      | some c =>
        match c.flight with
        | some ⟨_, .lay, _, _⟩ => c.laySupply.sector q
        | some ⟨_, .point _, _, _⟩ | none => none
      | none => none
    | .free _ | .bench _ => none
  else none

end Sys2Proof.Machine
end

