-- ==== Sys2Proof/Machine/Bench.lean ====
section
/-! DEFINITION. The bench's commands: the twelve task ops, the sectors and completions the bench moves, its abort and
cable reset lines (chapters 2, 6, 9, 10). -/

namespace Sys2Proof.Machine

/-- The outcome of every command: a next state, or a fault. -/
abbrev Result := Host.Outcome State Fault Refusal

/-- READ (R106): presented; taken when READY shows, and given LOCAL, PASS, APPLY or SPLIT. -/
def execRead (t : Nat) (f : TaskFields) (s : State) : Result := .next (s.benchTask t .read f)

/-- READ RAW (R106): as READ. -/
def execReadRaw (t : Nat) (f : TaskFields) (s : State) : Result := .next (s.benchTask t .readRaw f)

/-- VERIFY (R106): as READ; a LOCAL one completes at once (R171). -/
def execVerify (t : Nat) (f : TaskFields) (s : State) : Result := .next (s.benchTask t .verify f)

/-- WRITE (R107): SNOOP when it includes the plan sector, else PASS; checked for overlap at its issue (R121). -/
def execWrite (t : Nat) (f : TaskFields) (s : State) : Result := .next (s.benchTask t .write f)

/-- SEEK (R108): passed. -/
def execSeek (t : Nat) (f : TaskFields) (s : State) : Result := .next (s.benchTask t .seek f)

/-- HOME (R108): passed. -/
def execHome (t : Nat) (f : TaskFields) (s : State) : Result := .next (s.benchTask t .home f)

/-- SET GEOMETRY (R108): passed, and watched at its completion (R112). -/
def execSetGeometry (t : Nat) (f : TaskFields) (s : State) : Result := .next (s.benchTask t .setGeometry f)

/-- SET OPTION (R108): passed without being read. -/
def execSetOption (t : Nat) (f : TaskFields) (s : State) : Result := .next (s.benchTask t .setOption f)

/-- SPIN UP (R122): passed without any effect inside the part. -/
def execSpinUp (t : Nat) (f : TaskFields) (s : State) : Result := .next (s.benchTask t .spinUp f)

/-- SPIN DOWN (R122): passed; at its issue the monitor goes to STOPPING and a sweep on the unit ends (R151). -/
def execSpinDown (t : Nat) (f : TaskFields) (s : State) : Result := .next (s.benchTask t .spinDown f)

/-- POWER QUERY (R108): passed; the part does not use the answer. -/
def execPowerQuery (t : Nat) (f : TaskFields) (s : State) : Result := .next (s.benchTask t .powerQuery f)

/-- IDENTIFY (R108): passed. -/
def execIdentify (t : Nat) (f : TaskFields) (s : State) : Result := .next (s.benchTask t .identify f)

/-- Plan intake's copy after the sector at place `passed` of the write in slot `b`: the bytes of the plan sector of a
SNOOP, complete when all 512 have passed (R157, R123; DESIGN CHOICE, log 16), and left incomplete by an abort forwarded
before they had (R123; DESIGN CHOICE, log 29). -/
def copyAfter (copy : Copy) (b : BenchTask) (bytes : List Byte) : Copy :=
  match b.disp with
  | .snoop place =>
    if b.passed = place then ⟨bytes, decide (bytes.length = Config.sectorBytes) && !b.abort⟩ else copy
  | .pass | .apply _ | .split _ | .localAnswer _ => copy

/-- Whether the WRITE in slot `b` handles a further sector: after a forwarded abort none but one that was moving then
(R38; DESIGN CHOICE, log 29). -/
def BenchTask.handlesSector (b : BenchTask) : Bool := !b.abort || b.finishing

/-- A sector of the WRITE in slot `b` passes to the drive, and to plan intake's copy (R25, R157). -/
def State.passWritten (s : State) (b : BenchTask) (bytes : List Byte) : State :=
  { s with driveData := bytes, copy := copyAfter s.copy b bytes }.setSlot
    (some { b with passed := b.passed + 1, finishing := false })

/-- BENCH_WRITE_SECTOR (R24, R25, R157): a sector of the WRITE issued passes to the drive; a SNOOP's plan sector is
copied. After a forwarded abort a sector that is handled no more changes nothing (R38). While the drive's TASK phase is unopened, or no drive is attached, no DATA phase runs on either side and the part
offers no such transfer (DESIGN CHOICE, log 6). A sector beyond the task's count, which no bench sends, passes like the
others (DESIGN CHOICE, log 25). -/
def execBenchWriteSector (t : Nat) (bytes : List Byte) (s : State) : Result :=
  let s := s.advance t
  match s.answeredTask with
  | some b =>
    if b.task.op = .write then .next (if b.handlesSector then s.passWritten b bytes else s).finish
    else .fault .noBenchTransfer
  | none => .fault .noBenchTransfer

/-- The slot after the bench has taken a sector of a LOCAL answer: after the last one the GOOD completion goes out
(R171). -/
def State.localTaken (s : State) (b : BenchTask) (sectors : List Nat) : State :=
  let n := sectors.getD b.passed 0
  let done := decide (sectors.length ≤ b.passed + 1)
  (s.passLocal b.task.op n).setSlot (some { b with
    passed := b.passed + 1
    phase := if done then .completing (s.localGood sectors) else .localAnswer })

/-- LOCAL_SECTOR_TAKEN (R171): the bench takes the next sector of a LOCAL answer. -/
def execLocalSectorTaken (t : Nat) (s : State) : Result :=
  let s := s.advance t
  match s.slot with
  | some b =>
    match b.phase, b.disp with
    | .localAnswer, .localAnswer sectors => .next (s.localTaken b sectors).finish
    | _, _ => .fault .noBenchTransfer
  | none => .fault .noBenchTransfer

/-- BENCH_TAKES_COMPLETION (R27): the slot becomes EMPTY and READY shows again. -/
def execBenchTakesCompletion (t : Nat) (s : State) : Result :=
  let s := s.advance t
  match s.slot with
  | some b =>
    match b.phase with
    | .completing _ => .next (s.setSlot none).finish
    | .disposing | .localAnswer | .waiting | .issued => .fault .noBenchTransfer
  | none => .fault .noBenchTransfer

/-- BENCH_ABORT (R38, R124, R125, R126, R175); with no task to end it is disregarded (R26, R38). -/
def execBenchAbort (t : AbortMoment) (s : State) : Result :=
  .next ((s.advance t.time).benchAborts t.moving t.beforeRecord).finish

/-- What a unit shows from the start of a cable reset: a drive not ready, an unattached unit as before (R25). -/
def showsAtReset : DriveShows → DriveShows
  | .ready | .notReady => .notReady
  | .absent => .absent

/-- The part's blocks at a cable reset, a running sweep's ending aside (R40, R109, R141, R39, R156). -/
def State.resetBlocks (s : State) : State :=
  { s with
    cableReset := true
    slot := none
    copy := {}
    geometry := ⟨none, none⟩
    driveShows := ⟨showsAtReset s.driveShows.u0, showsAtReset s.driveShows.u1⟩
    port := {} }

/-- The sweep engine at a cable reset: a running sweep ends ABORTED_RESET (R67, R99); an IDLE engine looks when the reset
has ended a WEDGED condition (R141, R140). -/
def State.cableResets (s : State) : State :=
  let wedged := s.wedgedOn 0 || s.wedgedOn 1
  let r := s.resetBlocks
  match r.engine with
  | some _ => r.endSweep .abortedReset
  | none => if wedged then r.look false else r

/-- CABLE_RESET (R40, R141). -/
def execCableReset (t : Nat) (s : State) : Result := .next (s.advance t).cableResets.finish

/-- CABLE_RESET_RELEASE (R26, R40): READY shows, unless the power-on interval still runs. -/
def execCableResetRelease (t : Nat) (s : State) : Result :=
  .next { s.advance t with cableReset := false }.finish

end Sys2Proof.Machine
end

