-- ==== Sys2Proof/Machine/Drive.lean ====
section
/-! DEFINITION. The commands of the drive side for bench tasks: ready, sectors, completions (R25, R131, R118). -/

namespace Sys2Proof.Machine

/-- The task on the drive side once unit `u` no longer shows not ready: one waiting for it opens (R25). -/
def Port.openFor (p : Port) (u : UnitNo) : Port :=
  match p.task with
  | some d => if d.task.fields.unit = u then { p with task := some { d with opened := true } } else p
  | none => p

/-- Unit `u`'s handshake shows `d` from now; unless that is not ready, the task waiting for the unit opens (R25). -/
def State.driveChanges (s : State) (u : UnitNo) (d : DriveShows) : State :=
  let shown := { s with driveShows := s.driveShows.set u d }
  if d = .notReady then shown else shown.setPort (shown.port.openFor u)

/-- DRIVE_READY (R25): the granted task waiting for the drive opens its TASK phase. One that comes while cable reset is
held, which no drive that keeps R39 sends, is taken as at any other time (DESIGN CHOICE, log 31). -/
def execDriveReady (t : Nat) (u : DriveChange) (s : State) : Result :=
  .next ((s.advance t).driveChanges u.unit u.shows).finish

/-- Whether the op delivers sectors from the drive to the bench (R24). -/
def deliversSectors : Op → Bool
  | .read | .readRaw | .identify => true
  | .verify | .write | .seek | .home | .setGeometry | .setOption | .spinUp | .spinDown | .powerQuery => false

/-- DRIVE_SECTOR_DELIVERED (R25): the sector is relayed to the bench as it arrived; so is one beyond the task's count,
which no drive sends (DESIGN CHOICE, log 25), and one the drive delivers behind a forwarded abort (DESIGN CHOICE, log
29). -/
def execDriveSectorDelivered (t : Nat) (bytes : List Byte) (s : State) : Result :=
  let s := s.advance t
  match s.answeredTask with
  | some b =>
    if deliversSectors b.task.op then
      .next ({ s with benchData := bytes }.setSlot (some { b with passed := b.passed + 1 })).finish
    else .fault .noOpenTask
  | none => .fault .noOpenTask

/-- BENCH_TASK_COMPLETION (R131): the completion of a whole bench task. -/
def execBenchTaskCompletion (t : Nat) (c : Completion) (s : State) : Result :=
  let s := s.advance t
  match s.answeredTask with
  | some b =>
    match b.disp with
    | .pass | .apply _ | .snoop _ => .next (s.wholeDone b c).finish
    | .split _ | .localAnswer _ => .fault .noOpenTask
  | none => .fault .noOpenTask

/-- PIECE_COMPLETION (R118, R119, R126): the completion of the piece in flight, and whether a bench abort reaches the
sequencer behind it, before the next piece is issued (DESIGN CHOICE, log 26). -/
def execPieceCompletion (t : Nat) (c : PieceEnd) (s : State) : Result :=
  let s := s.advance t
  match s.answeredTask with
  | some b =>
    match b.disp with
    | .split q =>
      match q.inFlight with
      | some p => .next (s.pieceDone b q p c.completion c.abortBehind).finish
      | none => .fault .noOpenTask
    | .pass | .apply _ | .snoop _ | .localAnswer _ => .fault .noOpenTask
  | none => .fault .noOpenTask

end Sys2Proof.Machine
end

