-- ==== Sys2Proof/Machine/Lines.lean ====
section
/-! DEFINITION. The remaining commands: power-on, index pulses and stop timers, second marks, the HOLD line, the READY
blink and SWMARK (chapters 1, 8, 11). -/

namespace Sys2Proof.Machine

/-- The HOLD line at power-on: debounced state released, timer clear, and the input watched from then (R185). -/
def HoldLine.atPowerOn (low : Bool) : HoldLine := ({} : HoldLine).change low 0

/-- POWER_ON (R187, R186): every block takes its power-on value and the straps are latched. The levels that others drive
(cable reset, the drives' handshakes, the raw HOLD line), a held presentation and the queue stand (DESIGN CHOICE, log 9). -/
def execPowerOn (transparent : Bool) (service : BitVec 8) (s : State) : Result :=
  .next { State.reset with
    pending := s.pending
    straps := ⟨transparent, service⟩
    cableReset := s.cableReset
    driveShows := s.driveShows
    presented := s.presented
    holdLine := HoldLine.atPowerOn s.holdLine.rawLow }

/-- POWER_ON_INTERVAL_END (R187): 200 ms after power-on the interval ends. -/
def execPowerOnIntervalEnd (t : Nat) (s : State) : Result :=
  let s := s.advance t
  if Config.powerOnInterval ≤ s.now then .next { s with interval := false }.finish else .next s.finish

/-- INDEX_PULSE (R41, R143, R144): passed to the bench connector, and worked by the unit's monitor. -/
def execIndexPulse (t : Nat) (u : UnitNo) (s : State) : Result :=
  let s := s.advance t
  .next ({ s with indexOut := some (u, s.now) }.pulse u).finish

/-- STOP_TIMER_EXPIRY (R145). -/
def execStopTimerExpiry (t : Nat) (u : UnitNo) (s : State) : Result := .next ((s.advance t).stopTimer u).finish

/-- A second mark: every age, then the age test in map order, then the engine's look (R15, R16, R49). -/
def State.markSecond (s : State) : State :=
  let aged := { s with seconds := s.seconds + 1 }.mapEntries fun _ e => e.older
  (allEntries.foldl State.testAge aged).look false

/-- SECOND_MARK (R15, R16): the marks fall at 1000 ms, 2000 ms and so on from power-on (R187). -/
def execSecondMark (t : Nat) (s : State) : Result :=
  let s := s.advance t
  if (s.seconds + 1) * Config.second ≤ s.now then .next s.markSecond.finish else .next s.finish

/-- HOLD_LINE_CHANGE (R185): the raw line takes a level; the debounce timer starts or is cleared. -/
def execHoldLineChange (t : Nat) (low : Bool) (s : State) : Result :=
  let s := s.advance t
  .next { s with holdLine := s.holdLine.change low s.now }.finish

/-- The debounced HOLD state changes; when that turns the hold condition off, the engine looks (R185, R49). -/
def State.holdSettles (s : State) : State :=
  let h := { s with holdLine := s.holdLine.settle }
  if s.holdOn && !h.holdOn then h.look false else h

/-- HOLD_DEBOUNCE_EXPIRY (R185): the debounce timer reaches 20 ms. -/
def execHoldDebounceExpiry (t : Nat) (s : State) : Result :=
  let s := s.advance t
  if s.holdLine.due s.now then .next s.holdSettles.finish else .next s.finish

/-- READY_BLINK_EDGE (R183). -/
def execReadyBlinkEdge (t : Nat) (s : State) : Result :=
  let s := s.advance t
  .next (s.setBlink (s.blink.map fun b => b.edge s.now)).finish

/-- SWMARK_GAP_END (R182): 2 µs after an ending the line goes high for the new sweep. -/
def execSwmarkGapEnd (t : Nat) (s : State) : Result :=
  let s := s.advance t
  .next (s.setSwmark (s.swmark.endGap s.now)).finish

/-- SWMARK_PULSE_END (R182): 10 µs after the latest point grant the line goes low. -/
def execSwmarkPulseEnd (t : Nat) (s : State) : Result :=
  let s := s.advance t
  .next (s.setSwmark (s.swmark.endPulse s.now)).finish

end Sys2Proof.Machine
end

