-- ==== Sys2Proof/Machine/Sweep.lean ====
section
/-! DEFINITION. The commands of the sweep engine's tasks: comparator sectors, completions, expiries (chapters 3, 5, 7). -/

namespace Sys2Proof.Machine

/-- The flight after a sector of a point task is delivered: the count joins the tally (R60). -/
def Context.compare (c : Context) (f : Flight) (bytes : List Byte) : Flight :=
  { f with
    delivered := f.delivered + 1
    tally := f.tally +
      errorCount c.pattern (c.firstSector + f.delivered) (headOf c.subject).val c.testCylinder bytes }

/-- Whether the drive side holds an open READ RAW of a sweep that has ended (R98, R139). -/
def State.strayPointTask (s : State) : Bool :=
  match s.port.state, s.port.task with
  | .sweep _ (.leftOver _) _ _, some d | .aborting _ (.leftOver _) _, some d | .wedged _ _, some d =>
    decide (d.task.op = .readRaw)
  | _, _ => false

/-- Whether the drive side holds a task of the running sweep: SWEEP or ABORTING (R128). -/
def PortState.runningTask : PortState → Bool
  | .sweep _ .running _ _ | .aborting _ .running _ => true
  | .sweep _ (.leftOver _) _ _ | .aborting _ (.leftOver _) _ | .free _ | .bench _ | .wedged _ _ => false

/-- COMPARATOR_SECTOR (R60): the sector's count joins the tally, also for one beyond the task's count, which no drive
sends (DESIGN CHOICE, log 25); the data of a task whose sweep has ended is discarded (R98). -/
def execComparatorSector (t : Nat) (bytes : List Byte) (s : State) : Result :=
  let s := s.advance t
  if s.driveAnswers && s.port.state.runningTask then
    match s.engine with
    | some c =>
      match c.flight with
      | some ⟨k, .point i, d, n⟩ =>
        .next (s.setEngine (some { c with flight := some (c.compare ⟨k, .point i, d, n⟩ bytes) })).finish
      | some ⟨_, .lay, _, _⟩ | none => .fault .noOpenTask
    | none => .fault .noOpenTask
  else if s.driveAnswers && s.strayPointTask then .next s.finish
  else .fault .noOpenTask

/-- LAY_COMPLETION (R54). -/
def execLayCompletion (t : Nat) (k : Completion) (s : State) : Result :=
  let s := s.advance t
  if s.driveAnswers && s.port.state.runningSweep then
    match s.engine with
    | some c =>
      match c.flight with
      | some ⟨_, .lay, _, _⟩ => .next (s.layDone c k.status).finish
      | some ⟨_, .point _, _, _⟩ | none => .fault .noOpenTask
    | none => .fault .noOpenTask
  else .fault .noOpenTask

/-- POINT_COMPLETION (R61, R58, R64). -/
def execPointCompletion (t : Nat) (k : Completion) (s : State) : Result :=
  let s := s.advance t
  if s.driveAnswers && s.port.state.runningSweep then
    match s.engine with
    | some c =>
      match c.flight with
      | some ⟨a, .point i, d, n⟩ => .next (s.pointDone c ⟨a, .point i, d, n⟩ i k.status).finish
      | some ⟨_, .lay, _, _⟩ | none => .fault .noOpenTask
    | none => .fault .noOpenTask
  else .fault .noOpenTask

/-- ABORTING_COMPLETION (R138): of any status, it ends the abort; a running sweep whose task it is ends TIMEOUT. -/
def execAbortingCompletion (t : Nat) (_k : Completion) (s : State) : Result :=
  let s := s.advance t
  match s.port.state with
  | .aborting _ owner _ => if s.driveAnswers then .next (s.abortingDone owner).finish else .fault .noOpenTask
  | .free _ | .bench _ | .sweep _ _ _ _ | .wedged _ _ => .fault .noOpenTask

/-- LEFT_OVER_COMPLETION (R98): of any status, it frees the port and is discarded. -/
def execLeftOverCompletion (t : Nat) (_k : Completion) (s : State) : Result :=
  let s := s.advance t
  if s.driveAnswers && s.port.state.leftOverTask then .next (s.freePort none).finish else .fault .noOpenTask

/-- LATE_COMPLETION (R140): of any status, it ends WEDGED; the port goes FREE and the engine looks. -/
def execLateCompletion (t : Nat) (_k : Completion) (s : State) : Result :=
  let s := s.advance t
  match s.port.state with
  | .wedged _ _ => if s.driveAnswers then .next ((s.freePort none).look false).finish else .fault .noOpenTask
  | .free _ | .bench _ | .sweep _ _ _ _ | .aborting _ _ _ => .fault .noOpenTask

/-- What the first expiry of a task does: abort asserted and ABORTING with a second expiry, or, when its TASK phase has
not opened, the task withheld and the withholding taken as its completion (R137). -/
def State.expireTask (s : State) (u : UnitNo) (owner : Owner) (expiry timeout : Nat) : State :=
  if s.driveOpened then
    s.setPort { s.port with
      state := .aborting u owner (expiry + timeout * Config.timeoutUnit)
      abort := true }
  else s.abortingDone owner

/-- TASK_EXPIRY (R137): a task held in SWEEP whose expiry time has come; before that time there is no expiry. -/
def execTaskExpiry (t : Nat) (s : State) : Result :=
  let s := s.advance t
  match s.port.state with
  | .sweep u owner expiry timeout =>
    if expiry ≤ s.now then .next (s.expireTask u owner expiry timeout).finish else .next s.finish
  | .free _ | .bench _ | .aborting _ _ _ | .wedged _ _ => .next s.finish

/-- What a left-over task keeps for the drive once WEDGED (R98, R139). -/
def Owner.lay : Owner → Option LaySupply
  | .running => none
  | .leftOver l => l

/-- The second expiry: the port goes WEDGED on the unit with abort still asserted, and a running sweep whose task it is
ends TIMEOUT, its task left open belonging to no sweep (R139; DEDUCED, log 20). -/
def State.wedge (s : State) (u : UnitNo) (owner : Owner) : State :=
  let w := s.setPort { s.port with state := .wedged u owner.lay }
  match owner with
  | .running => (w.setEngine (w.engine.map fun c => { c with flight := none })).endSweep .timeout
  | .leftOver _ => w

/-- SECOND_EXPIRY (R139): a task held in ABORTING whose second expiry time has come. -/
def execSecondExpiry (t : Nat) (s : State) : Result :=
  let s := s.advance t
  match s.port.state with
  | .aborting u owner expiry => if expiry ≤ s.now then .next (s.wedge u owner).finish else .next s.finish
  | .free _ | .bench _ | .sweep _ _ _ _ | .wedged _ _ => .next s.finish

/-- The port after a grace has run out (R133). -/
def Port.endGrace (p : Port) (now : Nat) : Port :=
  match p.state with
  | .free (some e) => if e ≤ now then { p with state := .free none } else p
  | .free none | .bench _ | .sweep _ _ _ _ | .aborting _ _ _ | .wedged _ _ => p

/-- GRACE_EXPIRY (R133): the grace ends and a grant decision is made. -/
def execGraceExpiry (t : Nat) (s : State) : Result :=
  let s := s.advance t
  .next (s.setPort (s.port.endGrace s.now)).finish

end Sys2Proof.Machine
end

