-- ==== Sys2Proof/Machine/Dispatch.lean ====
section
/-! DEFINITION. What each command does: one arm per row of spec/opcode_table.json. -/

namespace Sys2Proof.Machine

def exec (i : Instr) (s : State) : Host.Outcome State Fault Refusal :=
  match i with
  | .powerOn transparent service => Sys2Proof.Machine.execPowerOn transparent service s
  | .powerOnIntervalEnd t => Sys2Proof.Machine.execPowerOnIntervalEnd t s
  | .read t f => Sys2Proof.Machine.execRead t f s
  | .readRaw t f => Sys2Proof.Machine.execReadRaw t f s
  | .verify t f => Sys2Proof.Machine.execVerify t f s
  | .write t f => Sys2Proof.Machine.execWrite t f s
  | .seek t f => Sys2Proof.Machine.execSeek t f s
  | .home t f => Sys2Proof.Machine.execHome t f s
  | .setGeometry t f => Sys2Proof.Machine.execSetGeometry t f s
  | .setOption t f => Sys2Proof.Machine.execSetOption t f s
  | .spinUp t f => Sys2Proof.Machine.execSpinUp t f s
  | .spinDown t f => Sys2Proof.Machine.execSpinDown t f s
  | .powerQuery t f => Sys2Proof.Machine.execPowerQuery t f s
  | .identify t f => Sys2Proof.Machine.execIdentify t f s
  | .driveReady t u => Sys2Proof.Machine.execDriveReady t u s
  | .driveSectorDelivered t bytes => Sys2Proof.Machine.execDriveSectorDelivered t bytes s
  | .comparatorSector t bytes => Sys2Proof.Machine.execComparatorSector t bytes s
  | .benchWriteSector t bytes => Sys2Proof.Machine.execBenchWriteSector t bytes s
  | .localSectorTaken t => Sys2Proof.Machine.execLocalSectorTaken t s
  | .benchTaskCompletion t c => Sys2Proof.Machine.execBenchTaskCompletion t c s
  | .pieceCompletion t c => Sys2Proof.Machine.execPieceCompletion t c s
  | .benchTakesCompletion t => Sys2Proof.Machine.execBenchTakesCompletion t s
  | .benchAbort t => Sys2Proof.Machine.execBenchAbort t s
  | .cableReset t => Sys2Proof.Machine.execCableReset t s
  | .cableResetRelease t => Sys2Proof.Machine.execCableResetRelease t s
  | .layCompletion t c => Sys2Proof.Machine.execLayCompletion t c s
  | .pointCompletion t c => Sys2Proof.Machine.execPointCompletion t c s
  | .abortingCompletion t c => Sys2Proof.Machine.execAbortingCompletion t c s
  | .leftOverCompletion t c => Sys2Proof.Machine.execLeftOverCompletion t c s
  | .lateCompletion t c => Sys2Proof.Machine.execLateCompletion t c s
  | .taskExpiry t => Sys2Proof.Machine.execTaskExpiry t s
  | .secondExpiry t => Sys2Proof.Machine.execSecondExpiry t s
  | .graceExpiry t => Sys2Proof.Machine.execGraceExpiry t s
  | .indexPulse t u => Sys2Proof.Machine.execIndexPulse t u s
  | .stopTimerExpiry t u => Sys2Proof.Machine.execStopTimerExpiry t u s
  | .secondMark t => Sys2Proof.Machine.execSecondMark t s
  | .holdLineChange t low => Sys2Proof.Machine.execHoldLineChange t low s
  | .holdDebounceExpiry t => Sys2Proof.Machine.execHoldDebounceExpiry t s
  | .readyBlinkEdge t => Sys2Proof.Machine.execReadyBlinkEdge t s
  | .swmarkGapEnd t => Sys2Proof.Machine.execSwmarkGapEnd t s
  | .swmarkPulseEnd t => Sys2Proof.Machine.execSwmarkPulseEnd t s

end Sys2Proof.Machine
end

