-- ==== Sys2Proof/WellFormed.lean ====
section
/-! DEFINITION. The values a command's operands can take: R28 for task records, R37 for completion records, R32, R33,
R34 and R35 for the length of a sector. The encoding on the cable admits no others (R28). -/

namespace Sys2Proof

/-- R28: every field of a task record lies in its range. -/
def TaskFields.wellFormed (f : TaskFields) : Bool :=
  decide (f.cylinder ≤ 65535) && decide (1 ≤ f.sector) && decide (f.sector ≤ 255)
    && decide (f.linear ≤ 268435455) && decide (1 ≤ f.count) && decide (f.count ≤ 256)
    && decide (-128 ≤ f.offset) && decide (f.offset ≤ 127)
    && decide (f.headsOperand ≤ 255) && decide (f.sectorsOperand ≤ 255)
    && decide (f.optionCode ≤ 255) && decide (f.optionValue ≤ 255)

/-- R37: every field of a completion record lies in its range, and GOOD reports 0 remaining. -/
def Completion.wellFormed (c : Completion) : Bool :=
  decide (c.remaining ≤ 256) && decide (c.last.cylinder ≤ 65535) && decide (c.last.head ≤ 255)
    && decide (1 ≤ c.last.sector) && decide (c.last.sector ≤ 255)
    && (match c.status with
      | .good => decide (c.remaining = 0)
      | .error _ => true)

/-- A command whose operands the cable can carry. -/
def Instr.wellFormed : Instr → Bool
  | .powerOn _ _ => true
  | .powerOnIntervalEnd _ => true
  | .read _ f | .readRaw _ f | .verify _ f | .write _ f | .seek _ f | .home _ f
  | .setGeometry _ f | .setOption _ f | .spinUp _ f | .spinDown _ f | .powerQuery _ f
  | .identify _ f => f.wellFormed
  | .driveReady _ _ => true
  | .driveSectorDelivered _ b => decide (b.length = 512) || decide (b.length = 520)
  | .comparatorSector _ b => decide (b.length = 520)
  | .benchWriteSector _ b => decide (b.length = 512)
  | .localSectorTaken _ => true
  | .benchTaskCompletion _ c | .layCompletion _ c | .pointCompletion _ c
  | .abortingCompletion _ c | .leftOverCompletion _ c | .lateCompletion _ c => c.wellFormed
  | .pieceCompletion _ c => c.completion.wellFormed
  | .benchTakesCompletion _ | .benchAbort _ | .cableReset _ | .cableResetRelease _ => true
  | .taskExpiry _ | .secondExpiry _ | .graceExpiry _ => true
  | .indexPulse _ _ | .stopTimerExpiry _ _ => true
  | .secondMark _ | .holdLineChange _ _ | .holdDebounceExpiry _ | .readyBlinkEdge _
  | .swmarkGapEnd _ | .swmarkPulseEnd _ => true

end Sys2Proof
end

