-- ==== Sys2Proof/Safety.lean ====
section
/-! DEFINITION. What a good state is, invariant by invariant, in the terms the statements use; what a drive's completion
can report (R30 to R38); and a few readings of state the statements share. -/

namespace Sys2Proof.Machine

/-! ### Readings of state -/

/-- The time a command carries; POWER_ON starts the time base from 0 (R187). -/
def stampOf : Instr → Option Nat
  | .powerOn _ _ => none
  | .powerOnIntervalEnd t | .read t _ | .readRaw t _ | .verify t _ | .write t _ | .seek t _ | .home t _
  | .setGeometry t _ | .setOption t _ | .spinUp t _ | .spinDown t _ | .powerQuery t _ | .identify t _
  | .driveReady t _ | .driveSectorDelivered t _ | .comparatorSector t _ | .benchWriteSector t _
  | .localSectorTaken t | .benchTaskCompletion t _ | .pieceCompletion t _ | .benchTakesCompletion t
  | .cableReset t | .cableResetRelease t | .layCompletion t _ | .pointCompletion t _
  | .abortingCompletion t _ | .leftOverCompletion t _ | .lateCompletion t _ | .taskExpiry t | .secondExpiry t
  | .graceExpiry t | .indexPulse t _ | .stopTimerExpiry t _ | .secondMark t | .holdLineChange t _
  | .holdDebounceExpiry t | .readyBlinkEdge t | .swmarkGapEnd t | .swmarkPulseEnd t => some t
  | .benchAbort a => some a.time

/-- The command that presents a bench task of each op. -/
def benchCommand (op : Op) (t : Nat) (f : TaskFields) : Instr :=
  match op with
  | .read => .read t f
  | .readRaw => .readRaw t f
  | .verify => .verify t f
  | .write => .write t f
  | .seek => .seek t f
  | .home => .home t f
  | .setGeometry => .setGeometry t f
  | .setOption => .setOption t f
  | .spinUp => .spinUp t f
  | .spinDown => .spinDown t f
  | .powerQuery => .powerQuery t f
  | .identify => .identify t f

/-- The engine gets no grant now: the port is held, a grace runs, or it does not ask (R130). -/
def State.engineQuiet (s : State) : Bool :=
  match s.port.state with
  | .free none => !s.sweepReady
  | .free (some _) | .bench _ | .sweep _ _ _ _ | .aborting _ _ _ | .wedged _ _ => true

/-- The arbiter has a grant to make (R130). -/
def State.grantPending (s : State) : Bool :=
  match s.port.state with
  | .free grace => s.benchAsks.isSome || (s.sweepReady && grace.isNone)
  | .bench _ | .sweep _ _ _ _ | .aborting _ _ _ | .wedged _ _ => false

/-- The port once it has become FREE with no grace and has been granted to the waiting bench task `b`, a PASS issued as
the bench sent it or an APPLY with the centre its entry has in `s`, or 0 (R7, R8, R114, R130, R131). -/
def State.portGranted (s : State) (b : BenchTask) : Port where
  state := .bench b.task.fields.unit
  graceRun := s.port.graceRun
  abort := false
  task := some
    ⟨⟨b.task.op, { b.task.fields with
        offset := match b.disp with
          | .apply i => ((s.entry i).centre).getD 0
          | .pass | .split _ | .snoop _ | .localAnswer _ => b.task.fields.offset }⟩,
      s.opensTask b.task.fields.unit⟩

/-- The port that a bench task's completion frees at time `now`: nothing on the drive side, the abort released, and the
grace of G ms that starts then while G is above 0 and the grace-run count below B, whether or not the engine asks (R131,
R133). -/
def State.portFreed (s : State) (now : Nat) : Port where
  state := .free (if 0 < s.plan.benchGrace ∧ s.port.graceRun < s.plan.graceLimit then
    some (now + s.plan.benchGrace * 1000) else none)
  graceRun := s.port.graceRun
  abort := false
  task := none

/-- The sweep task that context `c` has next: in LAYING the WRITE of the subject's test sectors, in SWEEPING the READ RAW
of the point at the cursor (R53, R57, R58, R59). -/
def Context.dueFlight (c : Context) : Flight :=
  let point := (passWalk c.order c.mirror c.points c.pass).getD c.position 0
  let onTrack : TaskFields :=
    { unit := unitOf c.subject, addressing := .chs, cylinder := c.testCylinder, head := headOf c.subject
      sector := c.firstSector, count := c.sectorCount, offset := 0, retryOn := false }
  match c.phase with
  | .laying => ⟨⟨.write, onTrack⟩, .lay, 0, 0⟩
  | .sweeping => ⟨⟨.readRaw, { onTrack with offset := c.offset1 + point * c.step }⟩, .point point, 0, 0⟩

/-- `s` once the grant decision is made with no bench task asking: with the port FREE and no grace running an asking
engine is granted its next task, with its expiry time, a grace-run count of 0 and, in POINT mode, its SWMARK pulse; an
engine that a grace keeps waiting, or that does not ask, is left (R130, R132, R133, R134, R182). -/
def State.sweepLetIn (s : State) : State :=
  match s.port.state, s.engine with
  | .free none, some c =>
    if s.sweepReady = true then
      { s with
        engine := some { c with flight := some c.dueFlight }
        port :=
          { state := .sweep (unitOf c.subject) .running (s.now + c.taskTimeout * 10000) c.taskTimeout
            graceRun := 0
            abort := s.port.abort
            task := some ⟨c.dueFlight.task, s.opensTask (unitOf c.subject)⟩ }
        swmark := if s.plan.swmarkMode = .point ∧ c.phase = .sweeping then ⟨true, none, some (s.now + 10)⟩
          else s.swmark }
    else s
  | _, _ => s

/-- Whether the port is FREE. -/
def PortState.isFree : PortState → Bool
  | .free _ => true
  | .bench _ | .sweep _ _ _ _ | .aborting _ _ _ | .wedged _ _ => false

/-- Nothing is ready to move by itself: the bench holds no presentation, no bench task waits for the port, and the engine
gets no grant now (R26, R129, R130). -/
def State.resting (s : State) : Bool := s.presented.isEmpty && s.benchAsks.isNone && s.engineQuiet

/-- The entries with a record in the queue, front first. -/
def State.queued (s : State) : List EntryNo := s.queue.map (·.entry)

/-- No look is owed: an IDLE engine in ACTIVE mode with the hold condition off has no eligible record before it, that is
none whose unit is SETTLED, whose unit the port is not WEDGED on, and whose entry is in scope (R48, R49). -/
def State.LookInv (s : State) : Prop :=
  s.active = true → s.holdOn = false → s.engine = none → ∀ r ∈ s.queue,
    ¬ (s.settled (unitOf r.entry) = true ∧ s.wedgedOn (unitOf r.entry) = false ∧ s.plan.inScope r.entry = true)

/-! ### What a drive's completion can report (R30, R32 to R38) -/

/-- The error kinds a drive reports for an op (R30, R32 to R36, R38). -/
def kindFits (op : Op) (k : ErrorKind) : Bool :=
  match k with
  | .refused | .aborted => true
  | .noSector => hasAddress op
  | .addressMark => hasCount op
  | .data => decide (op = .read) || decide (op = .verify)
  | .trackZero => decide (op = .home)
  | .writeFault => decide (op = .write)

/-- A completion record a drive can send for a task (R37): GOOD has nothing remaining, an ERROR no more than the count,
corrected belongs to READ, the power value to POWER QUERY. -/
def completionFits (t : Task) (c : Completion) : Bool :=
  (match c.status with
    | .good => decide (c.remaining = 0)
    | .error k => kindFits t.op k && decide (c.remaining ≤ countOrZero t))
    && (!c.corrected || decide (t.op = .read))
    && (!c.power.isSome || decide (t.op = .powerQuery))

/-! ### The ending of a sweep as the statements say it (R86, R90, R93, R102) -/

/-- SWMARK after the ending of a sweep that no other follows at once: low in SWEEP mode, as it was in the others (R182). -/
def State.markerAfterEnding (s : State) : Swmark :=
  if s.plan.swmarkMode = .sweep then { level := false, gapEnd := none, pulseEnd := none } else s.swmark

/-- What every ending without a fit does from `s` to `t`: the sweep of context `c` is over with outcome `g`, its record is
the newest, the counter has moved and the last curve stands (R86, R101, R102, R103); SWMARK marks the end and the blink is
over (R182, R183). -/
structure EndsUnfitted (s t : State) (c : Context) (g : SweepOutcome) : Prop where
  idle : t.engine = none
  marker : t.swmark = s.markerAfterEnding
  blinkOver : t.blink = none
  counted : t.counters = { s.counters with sweepsEnded := s.counters.sweepsEnded + 1 }
  record : t.log = (if s.log.length < 30 then s.log else s.log.tail) ++
    [⟨s.nextSeq, c.subject, c.cause, g, c.points, none⟩]
  nextNumber : t.nextSeq = s.nextSeq + 1
  curveKept : t.curve = s.curve

/-- An abort from outside: the subject is as it was before its sweep, with the outcome noted, and stands at the front of
the queue with cause RESUME; a full queue gives up its tail record, whose entry is marked wanted with that cause, and no
other entry changes (R45, R93, R95). -/
structure EndsResumed (s t : State) (c : Context) (g : SweepOutcome) : Prop extends EndsUnfitted s t c g where
  restored : t.entry c.subject =
    { s.entry c.subject with state := c.priorState, candidate := c.priorCandidate, lastOutcome := some g }
  resumed : s.queue.length < 16 → t.queue = ⟨c.subject, .resume⟩ :: s.queue
  displaced : ∀ front r, s.queue = front ++ [r] → 16 ≤ s.queue.length →
    t.queue = ⟨c.subject, .resume⟩ :: front ∧ t.entry r.entry = { s.entry r.entry with wanted := some r.cause }
  othersKept : ∀ i, i ≠ c.subject → (∀ r, s.queue.getLast? = some r → s.queue.length < 16 ∨ r.entry ≠ i) →
    t.entry i = s.entry i

/-- A first failure: the subject is as it was before its sweep with its retry spent, and stands at the tail of the queue
with cause RETRY (R90, R95). -/
structure EndsRetried (s t : State) (c : Context) (g : SweepOutcome) : Prop extends EndsUnfitted s t c g where
  restored : t.entry c.subject =
    { s.entry c.subject with
      state := c.priorState, candidate := c.priorCandidate, retries := 1, wanted := none, lastOutcome := some g }
  requeued : t.queue = s.queue ++ [⟨c.subject, .retry⟩]
  othersKept : ∀ i, i ≠ c.subject → t.entry i = s.entry i

/-- A second failure: the subject goes to FAILED and nothing is requeued (R91). -/
structure EndsFailed (s t : State) (c : Context) (g : SweepOutcome) : Prop extends EndsUnfitted s t c g where
  failed : t.entry c.subject =
    { s.entry c.subject with state := .failed, candidate := none, retries := 0, lastOutcome := some g }
  notRequeued : t.queue = s.queue
  othersKept : ∀ i, i ≠ c.subject → t.entry i = s.entry i

/-! ### Drift evidence as the statements say it (R12 to R14) -/

/-- What a drift event for entry `e` from a completion `k` of op `op` does from `s` to `t`: it moves the score of an
in-scope VALID or MARGINAL entry by its weight, within 0..255, and a score at or above the drift limit sends the entry to
STALE, which asks for a sweep with cause DRIFT; any other entry, the other entries, the engine and the log are left (R4,
R12, R13, R14, R44). -/
structure DriftEvidence (s t : State) (e : EntryNo) (op : Op) (k : Completion) : Prop where
  othersKept : ∀ i, i ≠ e → t.entry i = s.entry i
  engineKept : t.engine = s.engine
  logKept : t.log = s.log
  discarded : s.plan.inScope e = false ∨ ((s.entry e).state ≠ .valid ∧ (s.entry e).state ≠ .marginal) →
    t.entry e = s.entry e ∧ t.queue = s.queue
  applied : s.plan.inScope e = true → (s.entry e).state = .valid ∨ (s.entry e).state = .marginal →
    let before := (s.entry e).drift
    let score := match k.status with
      | .good => if op = .read ∧ k.corrected = true then min 255 (before + 2) else before - 1
      | .error kind => if kind ∈ [ErrorKind.data, .addressMark, .noSector] then min 255 (before + 8) else before
    (score < s.plan.driftLimit → t.entry e = { s.entry e with drift := score } ∧ t.queue = s.queue) ∧
    (s.plan.driftLimit ≤ score →
      ((s.isSubject e = true ∨ s.isQueued e = true) →
        t.entry e = { s.entry e with drift := score, state := .stale } ∧ t.queue = s.queue) ∧
      (s.isSubject e = false → s.isQueued e = false →
        (s.queue.length < 16 → t.queue = s.queue ++ [⟨e, .drift⟩] ∧
          t.entry e = { s.entry e with drift := score, state := .stale, wanted := none }) ∧
        (16 ≤ s.queue.length → t.queue = s.queue ∧
          t.entry e = { s.entry e with drift := score, state := .stale, wanted := some .drift })))

/-! ### Entries that go STALE in map order, as the statements say it (R16, R17, R44) -/

/-- The entries whose request is neither ignored as the subject's nor as a duplicate, in map order (R44). -/
def State.heard (s : State) (asks : EntryNo → Bool) : List EntryNo :=
  (List.finRange 128).filter fun i => asks i && !s.isSubject i && !s.isQueued i

/-- The entries of `asks`, in scope all of them, go STALE in map order and each asks for a sweep with the cause: from `s`
to `t` the queue takes their records at its tail until it is full, the rest are marked wanted, and nothing else of an
entry changes. `before` is the map they are found in (R16, R17, R44). -/
structure StaleInMapOrder (s t : State) (before : EntryNo → Entry) (asks : EntryNo → Bool) (cause : Cause) : Prop where
  requested : t.queue = s.queue ++ ((s.heard asks).take (16 - s.queue.length)).map fun i => ⟨i, cause⟩
  entries : ∀ i, t.entry i =
    { before i with
      state := if asks i = true then .stale else (before i).state
      wanted := if i ∈ (s.heard asks).drop (16 - s.queue.length) then some cause
        else if i ∈ s.heard asks then none else (before i).wanted }

/-! ### The report sectors as the statements say them (R177, R179 to R181) -/

/-- The four-byte field at offset `k`, lowest byte first (R177). -/
def quadAt (b : List Byte) (k : Nat) : Nat := wordAt b k + 65536 * wordAt b (k + 2)

/-- The weight of a flag that is set. -/
def flagOf (f : Bool) (weight : Nat) : Nat := if f then weight else 0

/-- The signed one-byte field at offset `k` holds `i`, and the signed two-byte one, as two's complement (R177). -/
def SignedByteAt (b : List Byte) (k : Nat) (i : Int) : Prop := (byteAt b k : Int) = i % 256

def SignedWordAt (b : List Byte) (k : Nat) (i : Int) : Prop := (wordAt b k : Int) = i % 65536

/-- The unit, head and zone of entry `i` stand at offset `k` (R179, R181). -/
def PlaceAt (b : List Byte) (k : Nat) (i : EntryNo) : Prop :=
  byteAt b k = (unitOf i).val ∧ byteAt b (k + 1) = (headOf i).val ∧ byteAt b (k + 2) = (zoneOf i).val

/-- The causes in the order of their codes, none first (R177). -/
def causeCodes : List (Option Cause) :=
  [none, some .plan, some .drift, some .age, some .spinUp, some .retry, some .resume]

/-- The outcomes in the order of their codes, NONE first (R177). -/
def outcomeCodes : List (Option SweepOutcome) :=
  [none, some .committed, some .marginal, some .confirmed, some .jump, some .failedJump, some .noOpening,
    some .layFailed, some .timeout, some .abortedSpindle, some .abortedSpinDown, some .abortedPattern,
    some .abortedReset, some .abortedPlan]

/-- The refusal causes in the order of their codes, none first (R177). -/
def refusalCodes : List (Option RefusalCause) :=
  [none, some .check, some .range, some .zones, some .testcyl, some .count]

/-- Whether a low edge, or a high one, is clipped (R180, R181). -/
def lowClipped (c : Clip) : Bool := decide (c = .low) || decide (c = .both)

def highClipped (c : Clip) : Bool := decide (c = .high) || decide (c = .both)

/-- The 16-byte head of report sector `n`, 2 to 8, of snapshot `v` with its number (R179). -/
structure HeadLayout (b : List Byte) (n number : Nat) (v : Snapshot) : Prop where
  number : wordAt b 4 = number
  sector : byteAt b 6 = n ∧ byteAt b 7 = 0
  time : quadAt b 8 = v.timeBase % 4294967296
  padding : quadAt b 12 = 0

/-- A unit block at offset `k` (R179). -/
structure UnitLayout (b : List Byte) (k : Nat) (v : UnitView) : Prop where
  spindle : byteAt b k = [SpindleState.unknown, .spinningUp, .settled, .stopping, .stopped].idxOf v.spindle
  flags : byteAt b (k + 1) = flagOf v.geometry.isSome 1 + flagOf v.wedged 2
  heads : byteAt b (k + 2) = ((v.geometry.map (·.heads)).getD 0) % 256
  sectors : byteAt b (k + 3) = ((v.geometry.map (·.sectors)).getD 0) % 256
  period : quadAt b (k + 4) = (v.lastPeriod.getD 0) % 4294967296

/-- The code and the unit of a port state (R177, R179). -/
def portCode : PortView → Nat × Nat
  | .free => (0, 0)
  | .bench u => (1, u.val)
  | .sweep u => (2, u.val)
  | .aborting u => (3, u.val)
  | .wedged u => (4, u.val)

/-- Sector 2 behind its head: header and queue (R179). -/
structure HeaderLayout (b : List Byte) (v : Snapshot) : Prop where
  plan : wordAt b 16 = v.planNumber % 65536
  eventNumber : wordAt b 18 = v.planEvent.number % 65536
  eventResult : byteAt b 20 = [PlanResult.none, .taken, .takenClamped, .refused, .ignored].idxOf v.planEvent.result
  eventCause : byteAt b 21 = refusalCodes.idxOf v.planEvent.cause
  hold : byteAt b 22 = flagOf v.holdLine 1 + flagOf v.holdPlan 2
  service : byteAt b 23 = v.service.toNat
  unit0 : UnitLayout b 24 v.units.u0
  unit1 : UnitLayout b 32 v.units.u1
  idle : v.engine = none → quadAt b 40 = 0 ∧ quadAt b 44 = 0
  running : ∀ e, v.engine = some e → byteAt b 40 = (if e.phase = .laying then 1 else 2) ∧ PlaceAt b 41 e.subject ∧
    byteAt b 44 = causeCodes.idxOf (some e.cause) ∧ byteAt b 45 = e.pass % 256 ∧ byteAt b 46 = e.point % 256 ∧
    byteAt b 47 = 0
  port : byteAt b 48 = (portCode v.port).1 ∧ byteAt b 49 = (portCode v.port).2
  graceRun : byteAt b 50 = v.graceRun % 256 ∧ byteAt b 51 = 0
  passed : quadAt b 52 = v.counters.passed.toNat
  applied : quadAt b 56 = v.counters.applied.toNat
  split : quadAt b 60 = v.counters.split.toNat
  localAnswers : quadAt b 64 = v.counters.localAnswers.toNat
  untranslated : quadAt b 68 = v.counters.untranslated.toNat
  sweepsEnded : quadAt b 72 = v.counters.sweepsEnded.toNat
  queueCount : byteAt b 76 = v.queue.length ∧ byteAt b 77 = 0 ∧ wordAt b 78 = 0
  records : ∀ k r, v.queue[k]? = some r → PlaceAt b (80 + 4 * k) r.entry ∧
    byteAt b (83 + 4 * k) = causeCodes.idxOf (some r.cause)
  rest : ∀ k, 80 + 4 * v.queue.length ≤ k → byteAt b k = 0

/-- A head-map entry at offset `k` of sectors 3 to 6 (R180). -/
structure EntryLayout (b : List Byte) (k : Nat) (e : Entry) : Prop where
  state : byteAt b k =
    [EntryState.unmeasured, .measuring, .valid, .marginal, .suspect, .stale, .failed].idxOf e.state
  flags : byteAt b (k + 1) = flagOf e.centre.isSome 1 + flagOf e.candidate.isSome 2 + flagOf e.laid 4 +
    flagOf e.wanted.isSome 8 + flagOf (lowClipped e.clipped) 16 + flagOf (highClipped e.clipped) 32
  centre : SignedByteAt b (k + 2) (e.centre.getD 0)
  candidate : SignedByteAt b (k + 3) (e.candidate.getD 0)
  width : wordAt b (k + 4) = e.width % 65536
  drift : byteAt b (k + 6) = e.drift % 256
  retries : byteAt b (k + 7) = e.retries % 256
  age : wordAt b (k + 8) = e.age % 65536
  lastOutcome : byteAt b (k + 10) = outcomeCodes.idxOf e.lastOutcome
  wanted : byteAt b (k + 11) = causeCodes.idxOf e.wanted

/-- Sector 7 behind its head: the last curve (R181). -/
structure CurveLayout (b : List Byte) (c : Curve) : Prop where
  seq : wordAt b 16 = c.seq.toNat
  count : byteAt b 18 = c.points.length ∧ byteAt b 19 = 0 ∧ quadAt b 20 = 0
  points : ∀ k p, c.points[k]? = some p → SignedWordAt b (24 + 6 * k) p.1 ∧ quadAt b (26 + 6 * k) = p.2 % 4294967296
  rest : ∀ k, 24 + 6 * c.points.length ≤ k → byteAt b k = 0

/-- A result record at offset `k` of sector 8 (R181). -/
structure ResultLayout (b : List Byte) (k : Nat) (r : ResultRec) : Prop where
  seq : wordAt b k = r.seq.toNat
  place : PlaceAt b (k + 2) r.entry
  cause : byteAt b (k + 5) = causeCodes.idxOf (some r.cause)
  outcome : byteAt b (k + 6) = outcomeCodes.idxOf (some r.outcome)
  points : byteAt b (k + 7) = r.points % 256
  noFit : r.opening = none → quadAt b (k + 8) = 0 ∧ quadAt b (k + 12) = 0
  fit : ∀ o, r.opening = some o →
    byteAt b (k + 8) = 1 + flagOf (lowClipped o.clipped) 2 + flagOf (highClipped o.clipped) 4 ∧
    SignedByteAt b (k + 9) o.centre ∧ wordAt b (k + 10) = o.width % 65536 ∧ SignedWordAt b (k + 12) o.edgeL ∧
    SignedWordAt b (k + 14) o.edgeR

/-- Sector 8 behind its head: the result log, oldest first (R181). -/
structure LogLayout (b : List Byte) (log : List ResultRec) : Prop where
  records : ∀ k r, log[k]? = some r → ResultLayout b (16 + 16 * k) r
  count : byteAt b 496 = log.length
  rest : ∀ k, 16 + 16 * log.length ≤ k → k ≠ 496 → byteAt b k = 0

/-! ### Invariants -/

/-- What the pins show. READY shows with the interval over, no cable reset and the slot EMPTY (R26). A READY lamp follows
the blink of a sweep on its unit, and without one is lit when the unit has an entry in scope and every one is VALID
(R183). A FAULT lamp is lit while an entry in scope on its unit is FAILED or the port is WEDGED on it (R184). All lamps are
dark in the power-on interval (R187). The blink runs exactly while a sweep does (R183). -/
structure State.PinsInv (s : State) : Prop where
  ready : s.pins.benchReady = true ↔ s.interval = false ∧ s.cableReset = false ∧ s.slot = none
  readyLamp : ∀ u, s.pins.readyLamp.get u = true ↔ s.interval = false ∧
    ((∃ c b, s.engine = some c ∧ unitOf c.subject = u ∧ s.blink = some b ∧ b.lit = true) ∨
      (∀ c, s.engine = some c → unitOf c.subject ≠ u) ∧ (∃ i, unitOf i = u ∧ s.plan.inScope i = true) ∧
        ∀ i, unitOf i = u → s.plan.inScope i = true → (s.entry i).state = .valid)
  faultLamp : ∀ u, s.pins.faultLamp.get u = true ↔ s.interval = false ∧
    ((∃ i, unitOf i = u ∧ s.plan.inScope i = true ∧ (s.entry i).state = .failed) ∨ ∃ l, s.port.state = .wedged u l)
  blinkWhileSweeping : s.blink.isSome ↔ s.engine.isSome

/-- The sweep queue (R42, R46): at most 16 records, no two for one entry; a wanted cause only while the queue is full and
for an entry without a record; the subject of the running sweep has neither. -/
structure State.QueueInv (s : State) : Prop where
  atMost16 : s.queue.length ≤ 16
  oneEach : s.queued.Nodup
  wantedWhenFull : ∀ i, (s.entry i).wanted ≠ none → s.queue.length = 16 ∧ i ∉ s.queued
  subjectOut : ∀ c, s.engine = some c → c.subject ∉ s.queued ∧ (s.entry c.subject).wanted = none

/-- The ties between the fields of an entry (R2, R3, R4, R13). -/
structure Entry.Tied (e : Entry) : Prop where
  candidateIffSuspect : e.candidate.isSome ↔ e.state = .suspect
  driftRange : e.drift ≤ 255
  retriesRange : e.retries ≤ 1
  ageRange : e.age ≤ 65535
  noCentre : e.centre = none → e.width = 0 ∧ e.clipped = .none ∧ e.age = 0
  unmeasured : e.state = .unmeasured → e.centre = none ∧ e.drift = 0
  measured : e.state = .valid ∨ e.state = .marginal ∨ e.state = .suspect → e.centre ≠ none

/-- What a running sweep's context says of its subject's entry (R9, R52, R84). -/
structure Context.Tied (c : Context) (e : Entry) : Prop where
  priorNotMeasuring : c.priorState ≠ .measuring
  priorCandidate : c.priorCandidate.isSome ↔ c.priorState = .suspect
  priorCentre : c.priorCentre = e.centre
  laidWhenSweeping : c.phase = .sweeping → e.laid = true
  unmeasured : c.priorState = .unmeasured → e.centre = none ∧ e.drift = 0
  measured : c.priorState = .valid ∨ c.priorState = .marginal ∨ c.priorState = .suspect → e.centre ≠ none

/-- The head map and the engine: entries are tied, an entry is MEASURING exactly when it is the subject of the running
sweep, and the context is tied to it (R3, R9, R52). -/
structure State.MapInv (s : State) : Prop where
  entriesTied : ∀ i, (s.entry i).Tied
  measuringIffSubject : ∀ i, (s.entry i).state = .measuring ↔ s.isSubject i = true
  contextTied : ∀ c, s.engine = some c → c.Tied (s.entry c.subject)

/-- The result log and the snapshot number (R100, R102, R174): at most 30 records, successive numbers up to the next; the
snapshot is empty exactly at number 0. -/
structure State.HistoryInv (s : State) : Prop where
  atMost30 : s.log.length ≤ 30
  successive : ∀ k (h : k < s.log.length), (s.log[k]).seq = s.nextSeq - BitVec.ofNat 16 (s.log.length - k)
  snapRange : s.snapNumber ≤ 65535
  emptySnapshot : s.snapshot = none ↔ s.snapNumber = 0

/-- The sum of the counts of the pieces not yet issued (R116). -/
def Sequencer.toIssue (q : Sequencer) : Nat := ((q.pieces.drop q.cursor).map (·.count)).sum

/-- The slot's disposition fits its state, and a sequencer's cursor and outstanding count fit the slot state (R26, R105,
R116, R117). -/
def BenchTask.Fits (b : BenchTask) : Prop :=
  match b.phase with
  | .disposing => False
  | .localAnswer => ∃ l, b.disp = .localAnswer l
  | .waiting => (∀ l, b.disp ≠ .localAnswer l) ∧
      ∀ q, b.disp = .split q → q.cursor = 0 ∧ q.pieces ≠ [] ∧ q.outstanding = q.toIssue
  | .issued => (∀ l, b.disp ≠ .localAnswer l) ∧
      ∀ q, b.disp = .split q → 1 ≤ q.cursor ∧ q.cursor ≤ q.pieces.length ∧ q.outstanding = q.toIssue
  | .completing _ => True

/-- The port carries at most one task, and each port state's facts agree with the slot and the engine (R128, R131,
R132). -/
structure State.PortInv (s : State) : Prop where
  slotFits : ∀ b, s.slot = some b → b.Fits
  benchHolds : ∀ u, s.port.state = .bench u ↔
    ∃ b, s.slot = some b ∧ b.phase = .issued ∧ b.task.fields.unit = u
  sweepHolds : ∀ c, s.engine = some c → (c.flight.isSome ↔ s.port.state.runningTask = true)
  runningHasSweep : s.port.state.runningTask = true → s.engine.isSome
  taskUnlessFree : s.port.task = none ↔ s.port.state.isFree = true
  graceRunRange : s.port.graceRun ≤ 255

/-- A zone-table row within its place in the layout (R178). -/
def ZoneRow.InRange (r : ZoneRow) : Prop :=
  r.firstCylinder ≤ 65535 ∧ r.testCylinder ≤ 65535 ∧ r.firstSector ≤ 255 ∧ r.sectorCount ≤ 255

/-- A plan as a take leaves it: every field in its range after the clamps of R161, and coherent by R162. -/
structure Plan.Ok (p : Plan) : Prop where
  number : p.number ≤ 65535
  step : 1 ≤ p.step ∧ p.step ≤ 16
  offset1 : -127 ≤ p.offset1 ∧ p.offset1 ≤ 127
  offset2 : -127 ≤ p.offset2 ∧ p.offset2 ≤ 127 ∧ p.offset2 ≤ p.offset1 + 63 * p.step
  passes : 1 ≤ p.passes ∧ p.passes ≤ 4
  threshold : p.threshold ≤ 4096
  minWidth : p.minWidth ≤ 127
  maxMove : 1 ≤ p.maxMove ∧ p.maxMove ≤ 127
  driftLimit : 1 ≤ p.driftLimit ∧ p.driftLimit ≤ 255
  pattern : p.pattern ≤ 15
  maxAge : p.maxAge ≤ 65535
  settleCount : 2 ≤ p.settleCount ∧ p.settleCount ≤ 64
  taskTimeout : 1 ≤ p.taskTimeout ∧ p.taskTimeout ≤ 255
  benchGrace : p.benchGrace ≤ 255
  graceLimit : 1 ≤ p.graceLimit ∧ p.graceLimit ≤ 255
  rows : ∀ z : ZoneNo, (p.zones[z]).InRange
  definedRows : ∀ z : ZoneNo, z.val < p.zoneCount →
    1 ≤ (p.zones[z]).firstSector ∧ 1 ≤ (p.zones[z]).sectorCount ∧ (p.zones[z]).sectorCount ≤ 16
  zone0 : (p.zones[0]).firstCylinder = 0
  zoneCount : 1 ≤ p.zoneCount ∧ p.zoneCount ≤ 4
  ascending : ∀ z y : ZoneNo, y.val = z.val + 1 → y.val < p.zoneCount →
    (p.zones[z]).firstCylinder < (p.zones[y]).firstCylinder
  testInZone : ∀ z : ZoneNo, z.val < p.zoneCount → (p.zones[z]).firstCylinder ≤ (p.zones[z]).testCylinder ∧
    ∀ y : ZoneNo, y.val = z.val + 1 → y.val < p.zoneCount → (p.zones[z]).testCylinder < (p.zones[y]).firstCylinder
  offsets : p.offset1 ≤ p.offset2

/-- The plan in force is one a take leaves (R161, R162, R170). -/
def State.PlanInv (s : State) : Prop := s.plan.Ok

/-- The ties between the fields of a monitor record (R142, R145). -/
structure Monitor.Tied (m : Monitor) : Prop where
  timerIffPulse : m.stopTimer.isSome ↔ m.lastPulse.isSome
  silent : (m.state = .unknown ∨ m.state = .stopped) ↔ m.lastPulse = none
  periodRange : ∀ p, m.lastPeriod = some p → 1000 ≤ p ∧ p ≤ 2000000
  periodNeedsPulse : m.lastPulse = none → m.lastPeriod = none
  stableRange : m.stable ≤ 255
  sinceIffStopping : m.stoppingSince.isSome ↔ m.state = .stopping

/-- The monitors' records are tied, and a sweep runs only in ACTIVE mode on a SETTLED unit (R142, R153, R104). -/
structure State.SpindleInv (s : State) : Prop where
  tied : ∀ u, (s.monitors.get u).Tied
  sweepSettled : ∀ c, s.engine = some c → s.settled (unitOf c.subject) = true ∧ s.active = true

end Sys2Proof.Machine
end

