-- ==== Sys2Proof/Certificates/Slice0/Obligations.lean ====
section
/-! DEFINITION. The statements for the provers. The titles and the sentences they rest on are in OBLIGATIONS.json. -/

open Sys2Proof Sys2Proof.Machine

/-! ### The step, and what every command keeps -/

/-- A step at a state with command `c` at the front of its queue is `c` on that state with the queue's rest. An empty
queue idles (the model's choice, log 5). -/
def Obligations.StepRunsFrontCommand : Prop :=
  (∀ (c : Instr) (rest : List Instr) (s : State),
    step { s with pending := c :: rest } = exec c { s with pending := rest }) ∧
  ∀ s : State, s.pending = [] → step s = .next s

/-- No command touches the queue of waiting commands; a command's time becomes the present unless it lies before it
(the model's choice, log 1 and 2); POWER_ON starts the time base from 0 and latches the straps, and no other command
changes the straps (R186, R187). -/
def Obligations.CommandsKeepQueueTimeAndStraps : Prop :=
  ∀ (c : Instr) (s s' : State), exec c s = .next s' →
    s'.pending = s.pending ∧
    (∀ t, stampOf c = some t → s'.now = max s.now t ∧ s'.straps = s.straps) ∧
    ∀ transparent service, c = .powerOn transparent service → s'.now = 0 ∧ s'.straps = ⟨transparent, service⟩

/-- No command is refused, and a command other than a sector, a completion or its taking always answers a next state.
The faults are the model's choice (log 6). With the slot EMPTY and the port FREE every one of these stops; and no
sector passes and no completion comes while nothing is on the drive side, or what is there has not had its TASK phase
opened or answered: the DATA and COMPLETION phases follow the TASK phase (R24, R25). -/
def Obligations.OnlyTransfersStop : Prop :=
  let noDrive := fun (t : Nat) (b : List Byte) (k : Completion) (a : Bool) (s : State) =>
    exec (.driveSectorDelivered t b) s = .fault .noOpenTask ∧ exec (.comparatorSector t b) s = .fault .noOpenTask ∧
    exec (.benchTaskCompletion t k) s = .fault .noOpenTask ∧ exec (.pieceCompletion t ⟨k, a⟩) s = .fault .noOpenTask ∧
    exec (.layCompletion t k) s = .fault .noOpenTask ∧ exec (.pointCompletion t k) s = .fault .noOpenTask ∧
    exec (.abortingCompletion t k) s = .fault .noOpenTask ∧ exec (.leftOverCompletion t k) s = .fault .noOpenTask ∧
    exec (.lateCompletion t k) s = .fault .noOpenTask ∧ exec (.benchWriteSector t b) s = .fault .noBenchTransfer
  (∀ (c : Instr) (s : State) (r : Refusal), exec c s ≠ .refused r) ∧
  (∀ (c : Instr) (s : State) (e : Fault), exec c s = .fault e →
    (∃ t b, c = .driveSectorDelivered t b) ∨ (∃ t b, c = .comparatorSector t b) ∨ (∃ t b, c = .benchWriteSector t b) ∨
    (∃ t, c = .localSectorTaken t) ∨ (∃ t k, c = .benchTaskCompletion t k) ∨ (∃ t k, c = .pieceCompletion t k) ∨
    (∃ t, c = .benchTakesCompletion t) ∨ (∃ t k, c = .layCompletion t k) ∨ (∃ t k, c = .pointCompletion t k) ∨
    (∃ t k, c = .abortingCompletion t k) ∨ (∃ t k, c = .leftOverCompletion t k) ∨ ∃ t k, c = .lateCompletion t k) ∧
  (∀ (t : Nat) (b : List Byte) (k : Completion) (a : Bool) (s : State), s.slot = none → s.port.state.isFree = true →
    noDrive t b k a s ∧ exec (.localSectorTaken t) s = .fault .noBenchTransfer ∧
    exec (.benchTakesCompletion t) s = .fault .noBenchTransfer) ∧
  ∀ (t : Nat) (b : List Byte) (k : Completion) (a : Bool) (s : State),
    (∀ d, s.port.task = some d → d.opened = false ∨ s.driveShows.get d.task.fields.unit = .absent) → noDrive t b k a s

/-- After every command no grant is left to make (R130), no presented task waits at a handshake that shows READY
(R26), and no look is left undone: where an IDLE engine had no eligible record before the command, it has none after
it, in ACTIVE mode with the hold condition off (R48, R49). So the engine looks at every event that can make a record
eligible: a request that joins the queue, an ending, a settle, hold going off, the end of WEDGED, a taken plan (R49,
R86, R140, R148, R164, R185). -/
def Obligations.NothingReadyLeftUndone : Prop :=
  ∀ (c : Instr) (s s' : State), exec c s = .next s' →
    s'.grantPending = false ∧ (s'.presented = [] ∨ s'.benchReady = false) ∧
      (s.PortInv → s.LookInv → s'.LookInv)

/-! ### Invariants that every step keeps -/

/-- The handshake and the lamps show what R26, R183 and R184 say after every step, and the READY blink runs exactly
while a sweep does (R26, R183, R184, R187). -/
def Obligations.StepKeepsPins : Prop :=
  ∀ s s' : State, s.PinsInv → step s = .next s' → s'.PinsInv

/-- The sweep queue stays within its bounds, and wanted causes stand only while it is full (R42, R44 to R47). -/
def Obligations.StepKeepsQueue : Prop :=
  ∀ s s' : State, s.QueueInv → step s = .next s' → s'.QueueInv

/-- Entries stay tied, exactly the subject of the running sweep is MEASURING, and its context stays tied to it (R3,
R4, R9, R10, R52). -/
def Obligations.StepKeepsMap : Prop :=
  ∀ s s' : State, s.MapInv → step s = .next s' → s'.MapInv

/-- The log keeps at most 30 records with successive numbers, and the snapshot is empty exactly at number 0 (R100,
R102, R173, R174). -/
def Obligations.StepKeepsHistory : Prop :=
  ∀ s s' : State, s.HistoryInv → step s = .next s' → s'.HistoryInv

/-- The port's state stays what the slot and the engine say it is, and at most one task is on the drive side (R25,
R116, R128, R131, R132). -/
def Obligations.StepKeepsPort : Prop :=
  ∀ s s' : State, s.PortInv → step s = .next s' → s'.PortInv

/-- The plan in force stays one that the clamps and the coherence tests let through: every field within its range, the
zone count 1 to 4, first cylinders ascending, each test cylinder in its zone, O1 not above O2 (R161, R162, R170). -/
def Obligations.StepKeepsPlan : Prop :=
  ∀ s s' : State, s.PlanInv → step s = .next s' → s'.PlanInv

/-- The monitors' records stay tied, and a sweep runs only in ACTIVE mode on a SETTLED unit (R104, R142, R153). -/
def Obligations.StepKeepsSpindle : Prop :=
  ∀ s s' : State, s.SpindleInv → step s = .next s' → s'.SpindleInv

/-- The state after reset meets every invariant. It is the model's power-on with no strap fitted (log 8). -/
def Obligations.ResetMeetsInvariants : Prop :=
  State.reset.PinsInv ∧ State.reset.QueueInv ∧ State.reset.MapInv ∧ State.reset.HistoryInv ∧ State.reset.PortInv ∧
    State.reset.PlanInv ∧ State.reset.SpindleInv ∧ State.reset.LookInv

/-! ### Power-on -/

/-- POWER_ON gives every block its power-on value, latches the straps, and watches the HOLD line from then (R185,
R186, R187); the levels others drive and a held presentation stand (the model's choice, log 9). The power-on interval
ends 200 ms after power-on and not before (R187; that the command does nothing before is the model's, log 3 and 4). -/
def Obligations.PowerOnAndItsInterval : Prop :=
  (∀ (transparent : Bool) (service : BitVec 8) (s : State),
    exec (.powerOn transparent service) s = .next { State.reset with
      pending := s.pending
      straps := ⟨transparent, service⟩
      cableReset := s.cableReset
      driveShows := s.driveShows
      presented := s.presented
      holdLine := { rawLow := s.holdLine.rawLow
                    asserted := false
                    timer := if s.holdLine.rawLow then some 20000 else none } }) ∧
  ∀ (t : Nat) (s : State), s.resting = true →
    exec (.powerOnIntervalEnd t) s =
      .next (State.drivePins { s.advance t with interval := s.interval && decide (max s.now t < 200000) })

/-! ### Bench tasks: taking, disposing, issuing -/

/-- While the handshake shows NOT READY a presented record is held and nothing of it is taken (R26; a second one is
held behind it, the model's choice, log 10). A task that is not LOCAL waits in the slot with its disposition while the
port is held (R26, R105, R127, R130). Every op alike. -/
def Obligations.TaskWaitsItsTurn : Prop :=
  (∀ (op : Op) (t : Nat) (f : TaskFields) (s : State),
    s.benchReady = false → s.benchAsks = none → s.engineQuiet = true →
    exec (benchCommand op t f) s =
      .next (State.drivePins { s.advance t with presented := s.presented ++ [⟨op, f⟩] })) ∧
  ∀ (op : Op) (t : Nat) (f : TaskFields) (s : State) (d : Disposition) (n : CounterName),
    s.benchReady = true → s.presented = [] → s.port.state.isFree = false →
    s.dispositionOf ⟨op, f⟩ = (d, n) → (∀ l, d ≠ .localAnswer l) →
    exec (benchCommand op t f) s = .next
      (State.drivePins { s.advance t with
        counters := s.counters.bump n
        slot := some { task := ⟨op, f⟩, disp := d, phase := .waiting } })

/-- The ops of R108, in TRANSPARENT mode every op but SPIN DOWN, and a read with an offset of its own that touches no
service-area sector (R7, R106 test 3), are passed: with the port FREE the record is issued as the bench sent it, the
passed counter moves, and nothing else does (R104, R108, R127, R131, R134). The same holds for a READ, READ RAW or
VERIFY that the tests of R106 pass, by whichever of them, with its own counter: untranslated by tests 2 and 4, passed
by 3, 5 and 8. SPIN DOWN, and WRITE in ACTIVE mode, have statements of their own. -/
def Obligations.PassedOpIsIssuedUnaltered : Prop :=
  ∀ (op : Op) (t : Nat) (f : TaskFields) (s : State) (grace : Option Nat),
    s.benchReady = true → s.presented = [] → s.port.state = .free grace →
    let issuedWith := fun counters : Counters => exec (benchCommand op t f) s = .next
      (State.drivePins { s.advance t with
        counters := counters
        slot := some { task := ⟨op, f⟩, disp := .pass, phase := .issued }
        port := { s.port with
          state := .bench f.unit
          graceRun := if grace.isSome && s.sweepReady then min 255 (s.port.graceRun + 1) else s.port.graceRun
          task := some ⟨⟨op, f⟩, s.opensTask f.unit⟩ } })
    (op ∈ [Op.seek, .home, .setGeometry, .setOption, .spinUp, .powerQuery, .identify] ∨
      s.active = false ∧ op ≠ .spinDown ∨
      s.active = true ∧ op ∈ [Op.read, .readRaw, .verify] ∧ 1 ≤ f.count ∧ f.offset ≠ 0 ∧
        (∀ secs, locate (s.geometry.get f.unit) f f.count = some secs →
          ∀ c ∈ secs, ¬ (c.cylinder = s.straps.service.toNat * 256 ∧ c.head = 0 ∧ 1 ≤ c.sector ∧ c.sector ≤ 8)) →
      issuedWith { s.counters with passed := s.counters.passed + 1 }) ∧
    (op ∈ [Op.read, .readRaw, .verify] → s.active = true →
      (s.dispositionOf ⟨op, f⟩ = (.pass, .passed) →
        issuedWith { s.counters with passed := s.counters.passed + 1 }) ∧
      (s.dispositionOf ⟨op, f⟩ = (.pass, .untranslated) →
        issuedWith { s.counters with untranslated := s.counters.untranslated + 1 }))

/-- A SPIN DOWN is passed, and its unit's monitor is told at the issue: STOPPING from now, or unchanged when STOPPED
or UNKNOWN (R122, R151). No sweep runs on the unit here. -/
def Obligations.SpinDownTellsTheMonitor : Prop :=
  ∀ (t : Nat) (f : TaskFields) (s : State) (grace : Option Nat),
    s.benchReady = true → s.presented = [] → s.port.state = .free grace →
    (∀ c, s.engine = some c → s.active = false ∨ unitOf c.subject ≠ f.unit) →
    exec (.spinDown t f) s = .next
      (State.drivePins { s.advance t with
        counters := { s.counters with passed := s.counters.passed + 1 }
        slot := some { task := ⟨.spinDown, f⟩, disp := .pass, phase := .issued }
        port := { s.port with
          state := .bench f.unit
          graceRun := if grace.isSome && s.sweepReady then min 255 (s.port.graceRun + 1) else s.port.graceRun
          task := some ⟨⟨.spinDown, f⟩, s.opensTask f.unit⟩ }
        monitors := s.monitors.set f.unit <|
          if (s.monitors.get f.unit).state ∈ [SpindleState.spinningUp, .settled, .stopping] then
            { s.monitors.get f.unit with state := .stopping, stoppingSince := some (max s.now t) }
          else s.monitors.get f.unit })

/-- In ACTIVE mode a WRITE is passed, as SNOOP when its sectors include the plan sector, which empties plan intake's
copy; here it overlaps no test sectors (R107, R121, R127, R157). -/
def Obligations.WriteIsPassedOrSnooped : Prop :=
  ∀ (t : Nat) (f : TaskFields) (s : State) (grace : Option Nat) (place : Option Nat),
    s.active = true → s.benchReady = true → s.presented = [] → s.port.state = .free grace →
    (∀ i, writeOverlaps s.plan (s.geometry.get f.unit) f i = false) →
    ((locate (s.geometry.get f.unit) f f.count).bind fun secs =>
      secs.findIdx? fun c => decide (c = ⟨s.straps.service.toNat * 256, 0, 1⟩)) = place →
    exec (.write t f) s = .next
      (State.drivePins { s.advance t with
        counters := { s.counters with passed := s.counters.passed + 1 }
        slot := some { task := ⟨.write, f⟩
                       disp := match place with
                         | some q => .snoop q
                         | none => .pass
                       phase := .issued }
        copy := if place.isSome then {} else s.copy
        port := { s.port with
          state := .bench f.unit
          graceRun := if grace.isSome && s.sweepReady then min 255 (s.port.graceRun + 1) else s.port.graceRun
          task := some ⟨⟨.write, f⟩, s.opensTask f.unit⟩ } })

/-- A WRITE issued in ACTIVE mode takes laid from exactly the entries it overlaps: those of its unit whose zone is
defined and on whose test sectors one of its sectors lies, or all 64 when it cannot be located (R21, R121). A sweep
whose subject is not among them goes on. One whose subject is ends ABORTED_PATTERN, its laid staying no, and with hold
off and its record taken again at once it starts over by laying, after the SWMARK gap, its WRITE waiting for the port
(R21, R93, R121, R182). -/
def Obligations.WriteClearsLaidOfOverlappedEntries : Prop :=
  ∀ (t : Nat) (f : TaskFields) (s : State) (grace : Option Nat),
    s.active = true → s.benchReady = true → s.presented = [] → s.port.state = .free grace →
    let hit := fun i : EntryNo => unitOf i = f.unit ∧ ∀ secs, locate (s.geometry.get f.unit) f f.count = some secs →
      ∃ c ∈ secs, c.head = (headOf i).val ∧ (zoneOf i).val < s.plan.zoneCount ∧
        c.cylinder = (s.plan.zones[zoneOf i]).testCylinder ∧ (s.plan.zones[zoneOf i]).firstSector ≤ c.sector ∧
        c.sector < (s.plan.zones[zoneOf i]).firstSector + (s.plan.zones[zoneOf i]).sectorCount
    ((∀ c, s.engine = some c → ¬ hit c.subject) →
      ∃ s', exec (.write t f) s = .next s' ∧ s'.queue = s.queue ∧ s'.log = s.log ∧ s'.engine = s.engine ∧
        s'.port.state = .bench f.unit ∧
        ∀ i, (hit i → s'.entry i = { s.entry i with laid := false }) ∧ (¬ hit i → s'.entry i = s.entry i)) ∧
    ∀ (c : Context) (lost : State), s.engine = some c → hit c.subject → s.queue.length < 16 →
      lost = { s with counters := { s.counters with passed := s.counters.passed + 1 }, entries := lost.entries } →
      (∀ i, (hit i → lost.entry i = { s.entry i with laid := false }) ∧ (¬ hit i → lost.entry i = s.entry i)) →
      (s.holdOn = true →
        ∃ s', exec (.write t f) s = .next s' ∧ EndsResumed lost s' c .abortedPattern ∧
          s'.port.state = .bench f.unit) ∧
      (s.holdOn = false → s.settled (unitOf c.subject) = true → s.plan.inScope c.subject = true →
        (∀ i, (s.entry i).wanted = none) →
        ∃ s' c', exec (.write t f) s = .next s' ∧ s'.engine = some c' ∧ c'.subject = c.subject ∧ c'.cause = .resume ∧
          c'.phase = .laying ∧ c'.flight = none ∧ c'.priorState = c.priorState ∧ s'.queue = s.queue ∧
          s'.swmark = (if s.plan.swmarkMode = .sweep then ⟨false, some (max s.now t + 2), none⟩ else s.swmark) ∧
          (∀ i, i ≠ c.subject → s'.entry i = lost.entry i) ∧ (s'.entry c.subject).state = .measuring ∧
          (s'.entry c.subject).laid = false ∧ (s'.entry c.subject).lastOutcome = some .abortedPattern ∧
          s'.port.state = .bench f.unit)

/-- The eight tests of R106, with the counter each moves; and what they draw on. A task's sectors are its successive
linear addresses turned into cylinder, head and sector, and none are found for a start out of range, a sector above
cylinder 65535, or a LINEAR task on unknown geometry, where a CHS task keeps to its track (R110). Each address follows
the one before it to the next sector, head or cylinder, and a CHS start is its own first sector (R29). A cylinder's
zone is the largest below the zone count that begins at or below it, and a sector's entry is that of its unit, head
and zone (R1, R111); an entry is in scope when its unit is enabled, its head is in the mask and its zone is below the
count (R5). -/
def Obligations.ReadDispositionByTheEightTests : Prop :=
  (∀ (op : Op) (f : TaskFields) (s : State), op ∈ [Op.read, .readRaw, .verify] → s.active = true → 1 ≤ f.count →
    let found := locate (s.geometry.get f.unit) f f.count
    let inside := fun c : Chs => c.cylinder = s.straps.service.toNat * 256 ∧ c.head = 0 ∧ 1 ≤ c.sector ∧ c.sector ≤ 8
    let entryOf := s.plan.entryOfSector f.unit
    let given := s.dispositionOf ⟨op, f⟩
    (∀ secs, found = some secs → (∀ c ∈ secs, inside c) →
      given = (.localAnswer (secs.map (·.sector)), .localAnswers)) ∧
    (∀ secs, found = some secs → (∃ c ∈ secs, inside c) → (∃ c ∈ secs, ¬ inside c) → given = (.pass, .untranslated)) ∧
    ((∀ secs, found = some secs → ∀ c ∈ secs, ¬ inside c) → f.offset ≠ 0 → given = (.pass, .passed)) ∧
    (found = none → f.offset = 0 → given = (.pass, .untranslated)) ∧
    (∀ secs, found = some secs → (∀ c ∈ secs, ¬ inside c) → f.offset = 0 →
      (∀ e, (∀ c ∈ secs, entryOf c = e) →
        (s.plan.inScope e = false → given = (.pass, .passed)) ∧
        (s.plan.inScope e = true → given = (.apply e, .applied))) ∧
      ((∃ c ∈ secs, ∃ d ∈ secs, entryOf c ≠ entryOf d) →
        ((∃ c ∈ secs, s.plan.inScope (entryOf c) = true) →
          given = (.split ⟨buildPieces entryOf s.plan.inScope secs, 0, f.count, false⟩, .split)) ∧
        ((∀ c ∈ secs, s.plan.inScope (entryOf c) = false) → given = (.pass, .passed))))) ∧
  (∀ (f : TaskFields) (n : Nat) (secs : List Chs),
    (∀ g : Geometry, (locate (some g) f n = some secs ↔
      (f.addressing = .chs → f.head.val < g.heads ∧ f.sector ≤ g.sectors) ∧ secs.length = n ∧
      ∀ i, i < n →
        let a := (if f.addressing = .chs then (f.cylinder * g.heads + f.head.val) * g.sectors + f.sector - 1
          else f.linear) + i
        a / (g.heads * g.sectors) ≤ 65535 ∧
        secs[i]? = some ⟨a / (g.heads * g.sectors), a / g.sectors % g.heads, a % g.sectors + 1⟩)) ∧
    (locate none f n = some secs ↔ f.addressing = .chs ∧ secs.length = n ∧
      ∀ i, i < n → secs[i]? = some ⟨f.cylinder, f.head.val, min 255 (f.sector + i)⟩)) ∧
  (∀ (g : Geometry) (a c h x : Nat), 1 ≤ g.sectors → h < g.heads → 1 ≤ x → x ≤ g.sectors →
    g.ofLinear ((c * g.heads + h) * g.sectors + x - 1) = ⟨c, h, x⟩ ∧
    (g.ofLinear a = ⟨c, h, x⟩ → g.ofLinear (a + 1) =
      if x < g.sectors then ⟨c, h, x + 1⟩ else if h + 1 < g.heads then ⟨c, h + 1, 1⟩ else ⟨c + 1, 0, 1⟩)) ∧
  ∀ (p : Plan) (u : UnitNo) (cyl : Nat) (h : HeadNo) (x : Nat) (z : ZoneNo) (i : EntryNo),
    1 ≤ p.zoneCount → (p.zones[0]).firstCylinder = 0 →
    (p.zoneOfCylinder cyl = z ↔ z.val < p.zoneCount ∧ (p.zones[z]).firstCylinder ≤ cyl ∧
      ∀ y : ZoneNo, z < y → y.val < p.zoneCount → cyl < (p.zones[y]).firstCylinder) ∧
    (p.entryOfSector u ⟨cyl, h.val, x⟩).val = u.val * 64 + h.val * 4 + (p.zoneOfCylinder cyl).val ∧
    i.val = (unitOf i).val * 64 + (headOf i).val * 4 + (zoneOf i).val ∧
    (p.inScope i = true ↔ p.unitMask.get (unitOf i) = true ∧
      (p.headMask.get (unitOf i)).getLsbD (headOf i).val = true ∧ (zoneOf i).val < p.zoneCount)

/-- An APPLY task reaches the drive with its entry's centre, or offset 0 when it is absent, whatever the entry's
state, and nothing else of its record changed (R7, R8, R114). One that waited in the slot while a sweep was measuring
is granted at the last point's completion, and carries the centre that this sweep has just committed when its entry is
the subject (R8, R64, R87, R130). In the second case the hold condition keeps the engine from looking. -/
def Obligations.ApplyCarriesTheCentre : Prop :=
  (∀ (op : Op) (t : Nat) (f : TaskFields) (s : State) (grace : Option Nat) (e : EntryNo),
    s.dispositionOf ⟨op, f⟩ = (.apply e, .applied) →
    s.benchReady = true → s.presented = [] → s.port.state = .free grace →
    exec (benchCommand op t f) s = .next
      (State.drivePins { s.advance t with
        counters := { s.counters with applied := s.counters.applied + 1 }
        slot := some { task := ⟨op, f⟩, disp := .apply e, phase := .issued }
        port := { s.port with
          state := .bench f.unit
          graceRun := if grace.isSome && s.sweepReady then min 255 (s.port.graceRun + 1) else s.port.graceRun
          task := some ⟨⟨op, { f with offset := ((s.entry e).centre).getD 0 }⟩, s.opensTask f.unit⟩ } })) ∧
  ∀ (t : Nat) (k : Completion) (s : State) (c : Context) (task : Task) (i d n e m : Nat) (u : UnitNo) (b : BenchTask)
    (a : EntryNo) (o : Opening) (f : FitOutcome),
    s.engine = some c → c.flight = some ⟨task, .point i, d, n⟩ → s.port.state = .sweep u .running e m →
    s.driveAnswers = true → s.holdOn = true → c.points ≤ c.position + 1 → c.passes ≤ c.pass →
    s.slot = some b → b.phase = .waiting → b.disp = .apply a →
    let sums := c.sums.set i (c.sums.getD i 0 + (if k.status = .good then n else n + 4096 * (c.sectorCount - d)))
    { c with flight := none, sums := sums }.fit = .found o f → f ∈ [FitOutcome.committed, .marginal, .confirmed] →
    ∃ s', exec (.pointCompletion t k) s = .next s' ∧ s'.slot = some { b with phase := .issued } ∧
      (s'.entry c.subject).centre = some o.centre ∧
      s'.port =
        { state := .bench b.task.fields.unit
          graceRun := s.port.graceRun
          abort := false
          task := some
            ⟨⟨b.task.op, { b.task.fields with
                offset := if a = c.subject then o.centre else ((s.entry a).centre).getD 0 }⟩,
              s.opensTask b.task.fields.unit⟩ }

/-- A SPLIT task is issued piece by piece: at the grant its first piece goes out in CHS with its own entry's offset, 0
out of scope; the cursor and the outstanding count move on (R116, R117). -/
def Obligations.SplitIssuesItsFirstPiece : Prop :=
  ∀ (op : Op) (t : Nat) (f : TaskFields) (s : State) (grace : Option Nat) (p : Piece) (ps : List Piece) (total : Nat),
    s.dispositionOf ⟨op, f⟩ = (.split ⟨p :: ps, 0, total, false⟩, .split) →
    s.benchReady = true → s.presented = [] → s.port.state = .free grace →
    exec (benchCommand op t f) s = .next
      (State.drivePins { s.advance t with
        counters := { s.counters with split := s.counters.split + 1 }
        slot := some { task := ⟨op, f⟩, disp := .split ⟨p :: ps, 1, total - p.count, false⟩, phase := .issued }
        port := { s.port with
          state := .bench f.unit
          graceRun := if grace.isSome && s.sweepReady then min 255 (s.port.graceRun + 1) else s.port.graceRun
          task := some
            ⟨⟨op, { f with
                addressing := .chs
                cylinder := p.start.cylinder
                head := Fin.ofNat 16 p.start.head
                sector := p.start.sector
                count := p.count
                offset := if p.inScope then ((s.entry p.entry).centre).getD 0 else 0 }⟩,
              s.opensTask f.unit⟩ } })

/-- A LOCAL task is answered by the part without the port: READ and READ RAW go to LOCAL, a VERIFY completes at once;
a task that covers sector 2 takes a snapshot, its own count included (R105, R127, R171, R173). The bench takes the
sectors one by one, 512 bytes each for READ and 8 zero bytes more for READ RAW; after the last one the GOOD completion
goes out (R171, R172). That a VERIFY is past LOCAL in the step that takes it, and that the sector passed stands in
`benchData`, are the model's choice (log 18, 27). -/
def Obligations.LocalTaskIsAnsweredByThePart : Prop :=
  (∀ (op : Op) (t : Nat) (f : TaskFields) (s : State) (l : List Nat),
    s.dispositionOf ⟨op, f⟩ = (.localAnswer l, .localAnswers) →
    s.benchReady = true → s.presented = [] → s.engineQuiet = true →
    let counted := { s.advance t with counters := { s.counters with localAnswers := s.counters.localAnswers + 1 } }
    exec (benchCommand op t f) s = .next
      (State.drivePins { counted with
        snapshot := if 2 ∈ l then some counted.takeView else s.snapshot
        snapNumber := if 2 ∈ l then (if s.snapNumber = 65535 then 1 else s.snapNumber + 1) else s.snapNumber
        slot := some
          { task := ⟨op, f⟩
            disp := .localAnswer l
            phase := if op = .verify then
                .completing ⟨.good, false, 0, ⟨s.straps.service.toNat * 256, 0, l.getLastD 1⟩, none⟩
              else .localAnswer } })) ∧
  ∀ (t : Nat) (s : State) (b : BenchTask) (l : List Nat) (n : Nat),
    s.slot = some b → b.phase = .localAnswer → b.disp = .localAnswer l → l[b.passed]? = some n →
    b.task.op = .read ∨ b.task.op = .readRaw → s.engineQuiet = true →
    exec (.localSectorTaken t) s = .next
      (State.drivePins { s.advance t with
        benchData := (if n = 1 then planSector s.plan else s.reportSector n) ++
          (if b.task.op = .readRaw then List.replicate 8 0 else [])
        slot := some { b with
          passed := b.passed + 1
          phase := if b.passed + 1 < l.length then .localAnswer
            else .completing ⟨.good, false, 0, ⟨s.straps.service.toNat * 256, 0, l.getLastD 1⟩, none⟩ } })

/-- Every service-area sector is served with 512 bytes and its signature in front; from the empty snapshot a report
sector shows its own number and everything else is 0 (R174, R178, R179). A snapshot is a copy of every reportable item
(R68, R173). With one, every report sector has its head; sector 2 shows the header and the queue, sectors 3 to 6
thirty-two entries each, sector 7 the last curve and sector 8 the result log, in their places, lowest byte first,
signed values as two's complement, names as their codes, absent values and unused places as 0 (R177, R179, R180,
R181). -/
def Obligations.ServedSectorsHaveTheirForm : Prop :=
  (∀ p : Plan, (planSector p).length = 512 ∧ wordAt (planSector p) 0 = 22600 ∧ wordAt (planSector p) 2 = 16724 ∧
    wordSum (planSector p) % 65536 = 0) ∧
  (∀ s : State, s.takeView =
    { timeBase := s.now / 1000
      planNumber := s.plan.number
      planEvent := s.planEvent
      holdLine := s.holdLine.asserted
      holdPlan := s.planHold
      service := s.straps.service
      units :=
        ⟨⟨s.monitors.u0.state, s.monitors.u0.lastPeriod, s.geometry.u0, s.wedgedOn 0⟩,
          ⟨s.monitors.u1.state, s.monitors.u1.lastPeriod, s.geometry.u1, s.wedgedOn 1⟩⟩
      engine := s.engine.map fun c => ⟨c.phase, c.subject, c.cause, if c.phase = .laying then 0 else c.pass,
        if c.phase = .laying then 0 else (passWalk c.order c.mirror c.points c.pass).getD c.position 0⟩
      port := match s.port.state with
        | .free _ => .free
        | .bench u => .bench u
        | .sweep u _ _ _ => .sweep u
        | .aborting u _ _ => .aborting u
        | .wedged u _ => .wedged u
      graceRun := s.port.graceRun
      counters := s.counters
      queue := s.queue
      entries := s.entries
      curve := s.curve
      log := s.log }) ∧
  (∀ (s : State) (n : Nat), 2 ≤ n → n ≤ 8 → s.snapshot = none →
    (s.reportSector n).length = 512 ∧ wordAt (s.reportSector n) 0 = 22600 ∧ wordAt (s.reportSector n) 2 = 21061 ∧
    byteAt (s.reportSector n) 6 = n ∧ ∀ k, 4 ≤ k → k ≠ 6 → byteAt (s.reportSector n) k = 0) ∧
  ∀ (s : State) (v : Snapshot), s.snapshot = some v → s.snapNumber ≤ 65535 →
    v.queue.length ≤ 16 → v.curve.points.length ≤ 64 → v.log.length ≤ 30 →
    (∀ n, 2 ≤ n → n ≤ 8 → (s.reportSector n).length = 512 ∧ wordAt (s.reportSector n) 0 = 22600 ∧
      wordAt (s.reportSector n) 2 = 21061 ∧ HeadLayout (s.reportSector n) n s.snapNumber v) ∧
    HeaderLayout (s.reportSector 2) v ∧
    (∀ i : EntryNo, EntryLayout (s.reportSector (3 + i.val / 32)) (16 + 12 * (i.val % 32)) v.entries[i] ∧
      ∀ k, 400 ≤ k → byteAt (s.reportSector (3 + i.val / 32)) k = 0) ∧
    CurveLayout (s.reportSector 7) v.curve ∧ LogLayout (s.reportSector 8) v.log

/-- The bench takes the completion record: the slot becomes EMPTY, and READY shows unless the power-on interval runs
or cable reset is asserted (R26, R27). A record held at the handshake is taken when READY next shows, be it by a
completion taken, by the end of the power-on interval or by the release of cable reset; its disposition and its
counter come then, exactly as if it were presented at that moment (R26, R105, R127). Of several the first presented is
taken and the others stay held, the model's choice (log 10). -/
def Obligations.TakingTheCompletionEmptiesTheSlot : Prop :=
  (∀ (t : Nat) (s : State) (b : BenchTask) (k : Completion),
    s.slot = some b → b.phase = .completing k → s.presented = [] → s.engineQuiet = true →
    exec (.benchTakesCompletion t) s = .next (State.drivePins { s.advance t with slot := none }) ∧
    (State.drivePins { s.advance t with slot := none }).pins.benchReady = (!s.interval && !s.cableReset)) ∧
  ∀ (t : Nat) (s : State) (op : Op) (f : TaskFields) (rest : List Task), s.presented = ⟨op, f⟩ :: rest →
    let takesAt := fun (c : Instr) (shown : State) =>
      (rest = [] → exec c s = exec (benchCommand op t f) { shown with presented := [] }) ∧
      ∀ (d : Disposition) (n : CounterName), s.dispositionOf ⟨op, f⟩ = (d, n) → (∀ l, d ≠ .localAnswer l) →
        s.port.state.isFree = false →
        exec c s = .next
          (State.drivePins { shown with
            presented := rest
            counters := s.counters.bump n
            slot := some { task := ⟨op, f⟩, disp := d, phase := .waiting } })
    (∀ (b : BenchTask) (k : Completion), s.slot = some b → b.phase = .completing k → s.interval = false →
      s.cableReset = false → takesAt (.benchTakesCompletion t) { s.advance t with slot := none }) ∧
    (s.slot = none → s.cableReset = false → 200000 ≤ max s.now t →
      takesAt (.powerOnIntervalEnd t) { s.advance t with interval := false }) ∧
    (s.slot = none → s.interval = false → takesAt (.cableResetRelease t) { s.advance t with cableReset := false })

/-! ### Bench aborts and cable reset -/

/-- A bench abort in WAITING ends the task inside the part; in LOCAL it ends the answer with the sectors not taken
remaining, a sector already moving being finished first; one that reached a LOCAL VERIFY before its record began to go
out ends it ABORTED with the full count; with no task to end it does nothing (R26, R38, R124, R171, R175; that the
command says whether a sector is moving, and whether it came before a VERIFY's record, is the model's choice, log 24
and 27, and that the sector's bytes stand in `benchData`, log 18). When a start cannot be located is the model's
reading (log 17). -/
def Obligations.AbortOfATaskNotIssued : Prop :=
  (∀ (t : Nat) (moving early : Bool) (s : State) (b : BenchTask),
    s.slot = some b → b.phase = .waiting → s.engineQuiet = true →
    exec (.benchAbort ⟨t, moving, early⟩) s = .next
      (State.drivePins { s.advance t with
        slot := some { b with
          phase := .completing
            { status := .error .aborted
              remaining := countOrZero b.task
              last := startAddress (s.geometry.get b.task.fields.unit) b.task } } })) ∧
  (∀ (t : Nat) (early : Bool) (s : State) (b : BenchTask) (l : List Nat), s.slot = some b → b.phase = .localAnswer →
    b.disp = .localAnswer l → s.engineQuiet = true →
    exec (.benchAbort ⟨t, false, early⟩) s = .next
      (State.drivePins { s.advance t with
        slot := some { b with
          phase := .completing
            { status := .error .aborted
              remaining := b.task.fields.count - b.passed
              last := if b.passed = 0 then startAddress (s.geometry.get b.task.fields.unit) b.task
                else ⟨s.straps.service.toNat * 256, 0, l.getD (b.passed - 1) 1⟩ } } }) ∧
    ∀ n, l[b.passed]? = some n → b.task.op = .read ∨ b.task.op = .readRaw →
      exec (.benchAbort ⟨t, true, early⟩) s = .next
        (State.drivePins { s.advance t with
          benchData := (if n = 1 then planSector s.plan else s.reportSector n) ++
            (if b.task.op = .readRaw then List.replicate 8 0 else [])
          slot := some { b with
            passed := b.passed + 1
            phase := .completing
              { status := .error .aborted
                remaining := b.task.fields.count - (b.passed + 1)
                last := ⟨s.straps.service.toNat * 256, 0, n⟩ } } })) ∧
  (∀ (t : Nat) (moving : Bool) (s : State) (b : BenchTask) (l : List Nat) (k : Completion),
    s.slot = some b → b.phase = .completing k → b.disp = .localAnswer l → b.task.op = .verify → b.passed = 0 →
    s.engineQuiet = true →
    exec (.benchAbort ⟨t, moving, true⟩) s = .next
      (State.drivePins { s.advance t with
        slot := some { b with
          phase := .completing
            { status := .error .aborted
              remaining := b.task.fields.count
              last := startAddress (s.geometry.get b.task.fields.unit) b.task } } })) ∧
  ∀ (t : Nat) (moving early : Bool) (s : State), s.resting = true →
    (s.slot = none ∨ ∃ b k, s.slot = some b ∧ b.phase = .completing k ∧
      (early = false ∨ b.task.op ≠ .verify ∨ ∀ l, b.disp ≠ .localAnswer l)) →
    exec (.benchAbort ⟨t, moving, early⟩) s = .next (s.advance t).drivePins

/-- A bench abort of an ISSUED task whose TASK phase has opened is forwarded to the drive and held; that it says whether
a sector of a WRITE is moving, so that one more passes, is the model's choice (log 29). A task not yet opened is withheld: its completion is made by the part, the whole count remaining, and the port is freed as at a
drive's completion, with its grace, an asking engine being let in where no grace starts (R125, R133, R134). A PASS or
a SNOOP, whose copy is then incomplete, changes nothing else; an APPLY raises its drift event of weight 0 (R115); a
piece ends its list, its own count and the outstanding count remaining, and one whose entry is in scope raises its
drift event of weight 0 (R115, R119, R120, R126). When a start cannot be located is the model's reading (log 17), and
that the copy is emptied at its discarding is the model's choice (log 16). Where a drift event is raised, the hold
condition or a running sweep keeps the engine from looking. -/
def Obligations.AbortOfAnIssuedTask : Prop :=
  (∀ (t : Nat) (moving early : Bool) (s : State) (b : BenchTask) (u : UnitNo) (d : DriveTask),
    s.slot = some b → b.phase = .issued → s.port.state = .bench u → s.port.task = some d → d.opened = true →
    exec (.benchAbort ⟨t, moving, early⟩) s = .next
      (State.drivePins { s.advance t with
        slot := some { b with abort := true, finishing := if b.abort = true then b.finishing else moving }
        port := { s.port with abort := true } })) ∧
  ∀ (t : Nat) (moving early : Bool) (s : State) (b : BenchTask) (u : UnitNo) (d : DriveTask),
    s.slot = some b → b.phase = .issued → s.port.state = .bench u → s.port.task = some d → d.opened = false →
    let aborts := exec (.benchAbort ⟨t, moving, early⟩) s
    let whole : Completion :=
      { status := .error .aborted
        remaining := countOrZero b.task
        last := startAddress (s.geometry.get b.task.fields.unit) b.task }
    let withheld := { b with abort := true, phase := .completing whole }
    let ends := fun (slot : BenchTask) => { s.advance t with slot := some slot, port := s.portFreed (max s.now t) }
    let drifts := fun (slot : BenchTask) (e : EntryNo) (k : Completion) => ∃ x : State,
      x = { ends slot with queue := x.queue, entries := x.entries } ∧ DriftEvidence s x e b.task.op k ∧
      aborts = .next x.sweepLetIn.drivePins
    (b.disp = .pass → aborts = .next (ends withheld).sweepLetIn.drivePins) ∧
    (∀ place, b.disp = .snoop place → s.copy.complete = false →
      aborts = .next (State.drivePins (State.sweepLetIn { ends withheld with copy := {} }))) ∧
    (∀ e, b.disp = .apply e → s.holdOn = true ∨ s.engine ≠ none → drifts withheld e whole) ∧
    ∀ q p, b.disp = .split q → 1 ≤ q.cursor → q.pieces[q.cursor - 1]? = some p →
      let merged := { b with
        abort := true
        phase := .completing
          { status := .error .aborted
            corrected := q.corrected
            remaining := p.count + q.outstanding
            last := p.start } }
      (p.inScope = false → aborts = .next (ends merged).sweepLetIn.drivePins) ∧
      (p.inScope = true → s.holdOn = true ∨ s.engine ≠ none →
        drifts merged p.entry
          { status := .error .aborted, corrected := false, remaining := p.count, last := p.start })

/-- A cable reset with no sweep running drops the bench task, forgets the geometry, empties plan intake's copy and
frees the port with its abort, times and count; map, queue, plan, monitors and the rest stand, and the drives show not
ready (R23, R25, R39, R40, R109, R141). Where it ends a WEDGED condition the engine looks, and the task of the sweep
it begins is granted at once and waits unopened for its drive (R25, R140, R141). The release shows READY again (R26,
R40). That a record held at the handshake stands is the model's choice (log 10), and so are that a second assertion
without a release acts as a fresh one (log 11) and that a unit with no drive goes on showing none (log 7). -/
def Obligations.CableResetAndItsRelease : Prop :=
  let after := fun d : DriveShows => if d = .absent then DriveShows.absent else .notReady
  (∀ (t : Nat) (s : State), s.engine = none →
    s.wedgedOn 0 = false ∧ s.wedgedOn 1 = false ∨ s.holdOn = true ∨ s.queue = [] →
    exec (.cableReset t) s = .next
      (State.drivePins { s.advance t with
        cableReset := true
        slot := none
        copy := {}
        geometry := ⟨none, none⟩
        driveShows := ⟨after s.driveShows.u0, after s.driveShows.u1⟩
        port := { state := .free none, graceRun := 0, abort := false, task := none } })) ∧
  (∀ (t : Nat) (s : State) (w : UnitNo) (lay : Option LaySupply) (front back : List QueueRec) (r : QueueRec),
    s.engine = none → s.port.state = .wedged w lay → s.holdOn = false → s.active = true → s.queue = front ++ r :: back →
    (∀ x ∈ front, s.settled (unitOf x.entry) = false ∨ s.plan.inScope x.entry = false) →
    s.settled (unitOf r.entry) = true → s.plan.inScope r.entry = true →
    ∃ s' c f, exec (.cableReset t) s = .next s' ∧ s'.engine = some c ∧ c.subject = r.entry ∧ c.cause = r.cause ∧
      c.flight = some f ∧ (s'.entry r.entry).state = .measuring ∧ s'.slot = none ∧
      s'.port =
        { state := .sweep (unitOf r.entry) .running (max s.now t + s.plan.taskTimeout * 10000) s.plan.taskTimeout
          graceRun := 0
          abort := false
          task := some ⟨f.task, decide (s.driveShows.get (unitOf r.entry) = .absent)⟩ }) ∧
  ∀ (t : Nat) (s : State), s.resting = true →
    exec (.cableResetRelease t) s = .next (State.drivePins { s.advance t with cableReset := false }) ∧
    (State.drivePins { s.advance t with cableReset := false }).pins.benchReady = (!s.interval && s.slot.isNone)

/-! ### Drive-side events of bench tasks -/

/-- A drive that shows ready opens the TASK phase of the task waiting for it, and of no other; one that shows not
ready opens none, and to a unit with no drive attached it opens without being answered (R25; that DRIVE_READY carries
these other changes, that a task already open stays so, and that a held cable reset makes no difference are the
model's choice, log 7, 30, 31). Sectors of a bench task are passed on as they arrive: from the drive for READ, READ
RAW and IDENTIFY, from the bench for WRITE; the plan sector of a SNOOP is copied besides, complete when all 512 bytes
have passed (R24, R25, R123, R157). Once an abort has been forwarded the bench's sectors are handled no more, but for
one that was moving then, and a plan sector that had not wholly passed leaves the copy incomplete (R38, R123; the
sector that was moving, and the drive's sectors behind an abort, are the model's choice, log 29). The two data
latches, the whole-sector write, and that a sector beyond the task's count is passed and counted like the others are
the model's choice (log 16, 18, 25). -/
def Obligations.DriveSideIsRelayed : Prop :=
  (∀ (t : Nat) (c : DriveChange) (s : State), s.resting = true →
    exec (.driveReady t c) s = .next
      (State.drivePins { s.advance t with
        driveShows := s.driveShows.set c.unit c.shows
        port := { s.port with
          task := s.port.task.map fun d =>
            if d.task.fields.unit = c.unit ∧ c.shows ≠ .notReady then { d with opened := true } else d } })) ∧
  (∀ (t : Nat) (bytes : List Byte) (s : State) (b : BenchTask) (u : UnitNo),
    s.slot = some b → b.phase = .issued → s.port.state = .bench u → s.driveAnswers = true →
    b.task.op ∈ [Op.read, .readRaw, .identify] →
    exec (.driveSectorDelivered t bytes) s = .next
      (State.drivePins { s.advance t with benchData := bytes, slot := some { b with passed := b.passed + 1 } })) ∧
  ∀ (t : Nat) (bytes : List Byte) (s : State) (b : BenchTask) (u : UnitNo),
    s.slot = some b → b.phase = .issued → s.port.state = .bench u → s.driveAnswers = true → b.task.op = .write →
    (b.abort = false ∨ b.finishing = true → exec (.benchWriteSector t bytes) s = .next
      (State.drivePins { s.advance t with
        driveData := bytes
        copy := if b.disp = .snoop b.passed then ⟨bytes, decide (bytes.length = 512 ∧ b.abort = false)⟩ else s.copy
        slot := some { b with passed := b.passed + 1, finishing := false } })) ∧
    (b.abort = true → b.finishing = false → exec (.benchWriteSector t bytes) s = .next (s.advance t).drivePins)

/-- The drive's completion of a PASS task reaches the bench field for field and frees the port. With G above 0 and the
grace-run count below B a grace starts, asking engine or not, and keeps the engine waiting; with none an engine that
asks is granted its next task at this completion (R27, R131, R133, R134). A SET GEOMETRY in ACTIVE mode teaches the
unit's row: known at GOOD with 1 to 16 heads and 1 to 255 sectors, unknown at GOOD with more heads, as it was at
ERROR, whatever its operands (R35, R112). -/
def Obligations.PassCompletionReachesTheBench : Prop :=
  ∀ (t : Nat) (k : Completion) (s : State) (b : BenchTask),
    s.slot = some b → b.phase = .issued → b.disp = .pass → s.driveAnswers = true →
    (b.task.op = .setGeometry → k.status = .good → 1 ≤ b.task.fields.sectorsOperand ∧
      b.task.fields.sectorsOperand ≤ 255 ∧ 1 ≤ b.task.fields.headsOperand) →
    exec (.benchTaskCompletion t k) s = .next
      (State.drivePins (State.sweepLetIn { s.advance t with
        slot := some { b with phase := .completing k }
        geometry := if s.active = true ∧ b.task.op = .setGeometry ∧ k.status = .good then
            s.geometry.set b.task.fields.unit
              (if b.task.fields.headsOperand ≤ 16 then
                some ⟨b.task.fields.headsOperand, b.task.fields.sectorsOperand⟩ else none)
          else s.geometry
        port := s.portFreed (max s.now t) }))

/-- The completion of an APPLY task moves its entry's drift score by its weight, within 0..255, when the entry is in
scope and VALID or MARGINAL; a score at or above the drift limit sends the entry to STALE and asks for a sweep with
cause DRIFT; any other entry is left. The record goes on to the bench as it came and the port is freed with its grace,
an asking engine being let in where none starts (R12, R13, R14, R27, R115, R131, R133, R134). The hold condition or a
running sweep keeps the engine from looking. -/
def Obligations.ApplyCompletionIsDriftEvidence : Prop :=
  ∀ (t : Nat) (k : Completion) (s : State) (b : BenchTask) (e : EntryNo),
    s.slot = some b → b.phase = .issued → b.disp = .apply e → s.driveAnswers = true →
    s.holdOn = true ∨ s.engine ≠ none →
    ∃ x : State, DriftEvidence s x e b.task.op k ∧
      x = { s.advance t with
        slot := some { b with phase := .completing k }
        port := s.portFreed (max s.now t)
        queue := x.queue
        entries := x.entries } ∧
      exec (.benchTaskCompletion t k) s = .next x.sweepLetIn.drivePins

/-- At the completion of a SNOOP task, whatever its status, an incomplete copy is discarded and judges nothing, and a
complete one that is IGNORED or REFUSED changes only the event; the record goes on to the bench as it came and the
port is freed with its grace, an asking engine being let in where none starts (R123, R133, R134, R158, R163). The
judgement: no plan without the signature (R159); CHECK when the words do not sum to 0 (R160); then each field brought
into its range, marked clamped where it lay outside (R161); then COUNT, ZONES, TESTCYL and RANGE, the first that fails
deciding; else taken (R162, R163). That the copy is emptied then is the model's choice (log 16). -/
def Obligations.SnoopCompletionJudgesTheCopy : Prop :=
  (∀ (t : Nat) (k : Completion) (s : State) (b : BenchTask) (place : Nat),
    s.slot = some b → b.phase = .issued → b.disp = .snoop place → s.driveAnswers = true →
    (s.copy.complete = false ∨ judge s.copy.bytes = .ignored ∨ ∃ n c, judge s.copy.bytes = .refused n c) →
    exec (.benchTaskCompletion t k) s = .next
      (State.drivePins (State.sweepLetIn { s.advance t with
        copy := {}
        slot := some { b with phase := .completing k }
        planEvent :=
          if s.copy.complete = false then s.planEvent
          else match judge s.copy.bytes with
            | .ignored => ⟨0, .ignored, none⟩
            | .refused n c => ⟨n, .refused, some c⟩
            | .taken _ _ => s.planEvent
        port := s.portFreed (max s.now t) }))) ∧
  ∀ b : List Byte,
    let w := wordAt b
    let y := byteAt b
    let number := w 4
    let zones := y 12
    let step := if y 16 = 0 then 1 else min 16 (y 16)
    let offset1 := if signedAt b 17 = -128 then -127 else signedAt b 17
    let wished := if signedAt b 18 = -128 then -127 else signedAt b 18
    let offset2 := if offset1 + 63 * step < wished then offset1 + 63 * step else wished
    let inForce := fun z : Nat => zones ≤ 4 ∧ z < zones
    let row := fun z : Nat => (
      { firstCylinder := if inForce z ∧ z = 0 then 0 else w (32 + 8 * z)
        testCylinder := w (34 + 8 * z)
        firstSector := if inForce z ∧ y (36 + 8 * z) = 0 then 1 else y (36 + 8 * z)
        sectorCount := if inForce z then (if y (37 + 8 * z) = 0 then 1 else min 16 (y (37 + 8 * z)))
          else y (37 + 8 * z) } : ZoneRow)
    let p : Plan :=
      { number := number
        actions := ⟨(y 6).testBit 0, (y 6).testBit 1, (y 6).testBit 2, (y 6).testBit 3⟩
        unitMask := ⟨(y 7).testBit 0, (y 7).testBit 1⟩
        headMask := ⟨BitVec.ofNat 16 (w 8), BitVec.ofNat 16 (w 10)⟩
        zoneCount := zones
        order := if y 13 = 1 then .descending else if y 13 = 2 then .centreOut else .ascending
        mirror := decide (y 14 ≠ 0)
        passes := if y 15 = 0 then 1 else min 4 (y 15)
        step := step
        offset1 := offset1
        offset2 := offset2
        minWidth := min 127 (y 19)
        threshold := min 4096 (w 20)
        maxMove := if y 22 = 0 then 1 else min 127 (y 22)
        driftLimit := if y 23 = 0 then 1 else y 23
        pattern := y 24 % 16
        settleCount := if y 25 < 2 then 2 else min 64 (y 25)
        maxAge := w 26
        taskTimeout := if y 28 = 0 then 1 else y 28
        benchGrace := y 29
        graceLimit := if y 30 = 0 then 1 else y 30
        swmarkMode := if y 31 = 1 then .sweep else if y 31 = 2 then .point else .off
        zones := #v[row 0, row 1, row 2, row 3] }
    let outside := y 16 = 0 ∨ 16 < y 16 ∨ signedAt b 17 = -128 ∨ signedAt b 18 = -128 ∨ offset1 + 63 * step < wished ∨
      2 < y 13 ∨ y 15 = 0 ∨ 4 < y 15 ∨ 4096 < w 20 ∨ 127 < y 19 ∨ y 22 = 0 ∨ 127 < y 22 ∨ y 23 = 0 ∨ 15 < y 24 ∨
      y 25 < 2 ∨ 64 < y 25 ∨ y 28 = 0 ∨ y 30 = 0 ∨ 2 < y 31 ∨
      ∃ z < 4, inForce z ∧ (z = 0 ∧ w 32 ≠ 0 ∨ y (36 + 8 * z) = 0 ∨ y (37 + 8 * z) = 0 ∨ 16 < y (37 + 8 * z))
    let unordered := ∃ z, z + 1 < zones ∧ (row (z + 1)).firstCylinder ≤ (row z).firstCylinder
    let strays := ∃ z < zones, (row z).testCylinder < (row z).firstCylinder ∨
      z + 1 < zones ∧ (row (z + 1)).firstCylinder ≤ (row z).testCylinder
    (¬ (w 0 = 22600 ∧ w 2 = 16724) → judge b = .ignored) ∧
    (w 0 = 22600 ∧ w 2 = 16724 →
      (wordSum b % 65536 ≠ 0 → judge b = .refused number .check) ∧
      (wordSum b % 65536 = 0 →
        (zones = 0 ∨ 4 < zones → judge b = .refused number .count) ∧
        (1 ≤ zones ∧ zones ≤ 4 →
          (unordered → judge b = .refused number .zones) ∧
          (¬ unordered ∧ strays → judge b = .refused number .testcyl) ∧
          (¬ unordered ∧ ¬ strays ∧ offset2 < offset1 → judge b = .refused number .range) ∧
          (¬ unordered ∧ ¬ strays ∧ offset1 ≤ offset2 →
            (outside → judge b = .taken p true) ∧ (¬ outside → judge b = .taken p false)))))

/-- A taken plan replaces the plan in force whole, records its event, and takes effect step by step. The entries of
every redefined zone, or under CLEAR MAP all, are cleared, the others kept; the records of entries cleared or out of
scope leave the queue (R19, R164 to R167). A sweep whose subject is cleared or falls out of scope ends ABORTED_PLAN,
its record written and nothing requeued, the subject cleared or put back; any other goes on (R20, R94). QUEUE ALL then
turns in-scope FAILED entries STALE and asks for each in-scope entry that is not MEASURING in map order, the queue
filling and the rest marked wanted; HOLD and then RELEASE set the plan part of the hold condition (R18, R168). SWMARK
takes the level of a changed mode, and in SWEEP mode is low after a sweep's end (R182). That the copy is emptied then
is the model's choice (log 16). No wanted cause stands before; the hold condition keeps the engine from looking. -/
def Obligations.TakenPlanRedefinesItsZones : Prop :=
  ∀ (t : Nat) (k : Completion) (s : State) (b : BenchTask) (place : Nat) (p : Plan) (clamped : Bool),
    s.slot = some b → b.phase = .issued → b.disp = .snoop place → s.driveAnswers = true →
    s.copy.complete = true → judge s.copy.bytes = .taken p clamped → (∀ i, (s.entry i).wanted = none) →
    (∀ c, s.engine = some c → (s.entry c.subject).state = .measuring) →
    let planHold := if p.actions.release then false else if p.actions.hold then true else s.planHold
    s.holdLine.asserted = true ∨ planHold = true →
    let redefined : ZoneNo → Bool := fun z =>
      decide (p.zoneCount ≤ z.val ∨ s.plan.zoneCount ≤ z.val ∨ s.plan.zones[z] ≠ p.zones[z])
    let cleared : EntryNo → Bool := fun i => redefined (zoneOf i) || p.actions.clearMap
    let ended : Bool := (match s.engine with
      | some c => cleared c.subject || !p.inScope c.subject
      | none => false)
    let kept : EntryNo → Entry := fun i =>
      if cleared i then {}
      else match s.engine with
        | some c =>
          if c.subject = i ∧ p.inScope i = false then
            { s.entry i with
              state := c.priorState, candidate := c.priorCandidate, lastOutcome := some .abortedPlan }
          else s.entry i
        | none => s.entry i
    let left := s.queue.filter fun r => !cleared r.entry && p.inScope r.entry
    let asks : EntryNo → Bool := fun i => p.actions.queueAll && p.inScope i && decide ((kept i).state ≠ .measuring)
    let asking := (List.finRange 128).filter fun i => asks i && !(left.map (·.entry)).contains i
    ∃ s', exec (.benchTaskCompletion t k) s = .next s' ∧ s'.plan = p ∧ s'.planHold = planHold ∧ s'.copy = {} ∧
      s'.planEvent = ⟨p.number, if clamped then .takenClamped else .taken, none⟩ ∧
      s'.slot = some { b with phase := .completing k } ∧
      s'.queue = left ++ (asking.take (16 - left.length)).map (fun i => ⟨i, .plan⟩) ∧
      (∀ i, s'.entry i =
        { kept i with
          state := if asks i = true ∧ (kept i).state = .failed then .stale else (kept i).state
          wanted := if i ∈ asking.drop (16 - left.length) then some .plan else none }) ∧
      (ended = false → s'.engine = s.engine ∧ s'.log = s.log ∧ s'.nextSeq = s.nextSeq ∧ s'.counters = s.counters) ∧
      (∀ c, s.engine = some c → ended = true → s'.engine = none ∧ s'.nextSeq = s.nextSeq + 1 ∧
        s'.log = (if s.log.length < 30 then s.log else s.log.tail) ++
          [⟨s.nextSeq, c.subject, c.cause, .abortedPlan, c.points, none⟩] ∧
        s'.counters = { s.counters with sweepsEnded := s.counters.sweepsEnded + 1 }) ∧
      s'.curve = s.curve ∧ s'.monitors = s.monitors ∧ s'.geometry = s.geometry ∧
      s'.swmark =
        (if p.swmarkMode ≠ s.plan.swmarkMode then
          ⟨decide (p.swmarkMode = .sweep) && s.engine.isSome && !ended, none, none⟩
        else if p.swmarkMode = .sweep ∧ ended = true then ⟨false, none, none⟩
        else s.swmark)

/-- A plan's sector read back is that plan: for every plan as a take leaves it, the sector served for it is judged
TAKEN, with no field clamped, and gives it back whole (R159 to R163, R176, R178). -/
def Obligations.PlanSectorReadsBackAsItsPlan : Prop :=
  ∀ p : Plan, p.Ok → judge (planSector p) = .taken p false

/-- A piece that completes GOOD with pieces left is followed at once by the next piece under the same grant; the last
one gives one merged GOOD record; a piece that ends ERROR gives one merged ERROR record with the sectors of the pieces
not issued added to its remaining count (R117, R118, R119). An abort forwarded to the piece in flight stops the list
at its GOOD end, and so does one that comes behind that end, which finds no piece in flight and is not asserted to the
drive; behind the list's last end, or an ERROR, it finds the merged record on its way (R26, R126; that the command
carries that abort is the model's choice, log 26). The port is freed with its grace, an asking engine being let in
where none starts (R133, R134). A piece of an entry out of scope does nothing else; one of an entry in scope gives its
entry its drift event besides (R115, R120), the hold condition or a running sweep keeping the engine from looking. -/
def Obligations.PieceCompletionsAreMerged : Prop :=
  ∀ (t : Nat) (k : Completion) (behind : Bool) (s : State) (b : BenchTask) (q : Sequencer) (p : Piece) (u : UnitNo),
    s.slot = some b → b.phase = .issued → b.disp = .split q → s.port.state = .bench u → s.driveAnswers = true →
    1 ≤ q.cursor → q.pieces[q.cursor - 1]? = some p →
    p.inScope = false ∨ s.holdOn = true ∨ s.engine ≠ none →
    let corrected := q.corrected || k.corrected
    let answers := fun (slot : BenchTask) (port : Port) => ∃ x : State,
      x = { s.advance t with slot := some slot, port := port, queue := x.queue, entries := x.entries } ∧
      exec (.pieceCompletion t ⟨k, behind⟩) s = .next x.sweepLetIn.drivePins ∧
      (p.inScope = false → x.queue = s.queue ∧ x.entries = s.entries) ∧
      (p.inScope = true → DriftEvidence s x p.entry b.task.op k)
    let done := fun (abort : Bool) (c : Completion) =>
      answers
        { b with disp := .split { q with corrected := corrected }, phase := .completing c, abort := abort }
        (s.portFreed (max s.now t))
    (∀ kind, k.status = .error kind →
      done b.abort ⟨.error kind, corrected, k.remaining + q.outstanding, k.last, none⟩) ∧
    (k.status = .good → q.pieces.length ≤ q.cursor → done b.abort ⟨.good, corrected, 0, k.last, none⟩) ∧
    (∀ n, k.status = .good → q.pieces[q.cursor]? = some n → b.abort = true ∨ behind = true →
      done true ⟨.error .aborted, corrected, q.outstanding, k.last, none⟩) ∧
    (∀ n, k.status = .good → q.pieces[q.cursor]? = some n → b.abort = false → behind = false →
      answers { b with disp := .split ⟨q.pieces, q.cursor + 1, q.outstanding - n.count, corrected⟩ }
        { s.port with
          task := some
            ⟨⟨b.task.op, { b.task.fields with
                addressing := .chs
                cylinder := n.start.cylinder
                head := Fin.ofNat 16 n.start.head
                sector := n.start.sector
                count := n.count
                offset := if n.inScope then ((s.entry n.entry).centre).getD 0 else 0 }⟩,
              s.opensTask b.task.fields.unit⟩ })

/-- The pieces of a SPLIT task cover its sectors once each in order, a new piece wherever the entry changes (R116);
and the merged remaining count of a failing piece equals the number of sectors from the failing one to the task's
last, both included (R119). -/
def Obligations.PiecesCoverTheTask : Prop :=
  (∀ (entryOf : Chs → EntryNo) (scope : EntryNo → Bool) (secs : List Chs),
    let pieces := buildPieces entryOf scope secs
    (pieces.flatMap fun p => List.replicate p.count p.entry) = secs.map entryOf ∧
    (∀ k (h : k < pieces.length), 1 ≤ (pieces[k]).count ∧ (pieces[k]).inScope = scope (pieces[k]).entry ∧
      secs[((pieces.take k).map (·.count)).sum]? = some (pieces[k]).start) ∧
    ∀ k (h : k + 1 < pieces.length), (pieces[k]).entry ≠ (pieces[k + 1]).entry) ∧
  ∀ (g : Geometry) (a n : Nat) (secs : List Chs) (entryOf : Chs → EntryNo) (scope : EntryNo → Bool) (k : Nat)
    (q : Sequencer) (p : Piece) (c : Completion),
    1 ≤ g.heads → 1 ≤ g.sectors → g.run a n = some secs → q.pieces = buildPieces entryOf scope secs →
    q.cursor = k + 1 → q.outstanding = q.toIssue → q.pieces[k]? = some p → 1 ≤ c.remaining → c.remaining ≤ p.count →
    c.last = g.ofLinear (a + ((q.pieces.take k).map (·.count)).sum + (p.count - c.remaining)) →
    (mergedError q c).remaining = a + n - g.toLinear c.last

/-! ### Sweep tasks -/

/-- A delivered sector of a point task adds the bits of its 512 data bytes that differ from the reference pattern of
its place to the task's tally, and raises its delivered count (R60); so does one beyond the task's count, which no
drive sends (the model's choice, log 25). A sector of a sweep that has ended is discarded, with its task left over in
SWEEP or in ABORTING, or open on a WEDGED port (R98, R139). The differing bits of two byte strings are the bit
positions, over the length of the shorter, at which they differ: from 0 to 4096 for a sector (R60). -/
def Obligations.ComparatorCountsDifferingBits : Prop :=
  (∀ (t : Nat) (bytes : List Byte) (s : State) (c : Context) (task : Task) (i d n : Nat),
    s.engine = some c → c.flight = some ⟨task, .point i, d, n⟩ → s.port.state.runningTask = true →
    s.driveAnswers = true → s.presented = [] →
    exec (.comparatorSector t bytes) s = .next
      (State.drivePins { s.advance t with
        engine := some { c with
          flight := some ⟨task, .point i, d + 1,
            n + differingBits (bytes.take 512)
              (patternSector c.pattern (c.firstSector + d) (headOf c.subject).val c.testCylinder)⟩ } })) ∧
  (∀ (t : Nat) (bytes : List Byte) (s : State) (u : UnitNo) (lay : Option LaySupply) (e n : Nat) (d : DriveTask),
    s.port.state = .sweep u (.leftOver lay) e n ∨ s.port.state = .aborting u (.leftOver lay) e ∨
      s.port.state = .wedged u lay →
    s.port.task = some d → d.task.op = .readRaw → s.driveAnswers = true → s.presented = [] →
    exec (.comparatorSector t bytes) s = .next (s.advance t).drivePins) ∧
  (∀ x y : List Byte, differingBits x y =
    ((List.range (8 * min x.length y.length)).filter fun p =>
      (x.getD (p / 8) 0).getLsbD (p % 8) != (y.getD (p / 8) 0).getLsbD (p % 8)).length) ∧
  ∀ (bytes : List Byte) (pn n h c : Nat), differingBits (bytes.take 512) (patternSector pn n h c) ≤ 4096

/-- The lay WRITE of the running sweep completes. GOOD: laid becomes yes and the engine sweeps from pass 1, position
0, with every sum 0, the port FREE for its first point (R54, R132). ERROR: the sweep ends LAY_FAILED, a first failure
with the retry unspent, which restores and requeues the subject, a second one with it spent, which sends it to FAILED
(R54, R90, R91). The hold condition keeps the engine from its next task and from looking. -/
def Obligations.LayCompletionOpensTheSweep : Prop :=
  ∀ (t : Nat) (k : Completion) (s : State) (c : Context) (task : Task) (d n e m : Nat) (u : UnitNo),
    s.engine = some c → c.flight = some ⟨task, .lay, d, n⟩ → s.port.state = .sweep u .running e m →
    s.driveAnswers = true → s.holdOn = true → s.benchAsks = none → s.presented = [] →
    let freed : Port := { state := .free none, graceRun := s.port.graceRun, abort := false, task := none }
    (k.status = .good → exec (.layCompletion t k) s = .next
      ({ s.advance t with
        engine := some { c with
          flight := none, phase := .sweeping, pass := 1, position := 0, sums := List.replicate c.points 0 }
        port := freed }.setEntry c.subject { s.entry c.subject with laid := true }).drivePins) ∧
    (k.status ≠ .good → (s.entry c.subject).retries = 0 → s.plan.inScope c.subject = true →
      s.isQueued c.subject = false → s.queue.length < 16 →
      ∃ s', exec (.layCompletion t k) s = .next s' ∧ EndsRetried s s' c .layFailed ∧ s'.port = freed) ∧
    (k.status ≠ .good → (s.entry c.subject).retries ≠ 0 →
      ∃ s', exec (.layCompletion t k) s = .next s' ∧ EndsFailed s s' c .layFailed ∧ s'.port = freed)

/-- A point task of the running sweep completes: its tally, and 4096 for each sector not delivered when it ends ERROR,
joins the sum of its point; the cursor moves to the next position, or to the next pass's first (R58, R61). Under the
hold condition the next task is kept back. A bench task WAITING in the slot is granted then, whether or not the engine
asks for its next task, and an APPLY carries the centre its entry has at this grant (R8, R130, R132). -/
def Obligations.PointCompletionCountsAndAdvances : Prop :=
  ∀ (t : Nat) (k : Completion) (s : State) (c : Context) (task : Task) (i d n e m : Nat) (u : UnitNo),
    s.engine = some c → c.flight = some ⟨task, .point i, d, n⟩ → s.port.state = .sweep u .running e m →
    s.driveAnswers = true → c.position + 1 < c.points ∨ c.pass < c.passes →
    let sums := c.sums.set i (c.sums.getD i 0 + (if k.status = .good then n else n + 4096 * (c.sectorCount - d)))
    let counted := { s.advance t with
      engine := some { c with
        flight := none
        sums := sums
        position := if c.position + 1 < c.points then c.position + 1 else 0
        pass := if c.position + 1 < c.points then c.pass else c.pass + 1 } }
    (s.holdOn = true → s.benchAsks = none → s.presented = [] →
      exec (.pointCompletion t k) s = .next
        (State.drivePins { counted with
          port := { state := .free none, graceRun := s.port.graceRun, abort := false, task := none } })) ∧
    ∀ b : BenchTask, s.slot = some b → b.phase = .waiting →
      (∃ a, b.disp = .apply a) ∨ b.disp = .pass ∧ b.task.op ∉ [Op.write, .spinDown] →
      exec (.pointCompletion t k) s = .next
        (State.drivePins { counted with
          slot := some { b with phase := .issued }
          port := (s.advance t).portGranted b })

/-- With hold off, the unit SETTLED and no bench task waiting, a point completion is followed at once by the grant of
the next point's READ RAW: its offset is the point's, its expiry the task timeout from now, the grace-run count
returns to 0, and SWMARK in POINT mode gives its pulse (R59, R62, R130, R132, R182). -/
def Obligations.NextPointTaskIsGrantedAtOnce : Prop :=
  ∀ (t : Nat) (k : Completion) (s : State) (c : Context) (task : Task) (i d n e m : Nat) (u : UnitNo),
    s.engine = some c → c.phase = .sweeping → c.flight = some ⟨task, .point i, d, n⟩ →
    s.port.state = .sweep u .running e m → s.driveAnswers = true → s.holdOn = false →
    s.settled (unitOf c.subject) = true →
    s.benchAsks = none → s.presented = [] → c.position + 1 < c.points →
    let j := (passWalk c.order c.mirror c.points c.pass).getD (c.position + 1) 0
    let next : Task :=
      ⟨.readRaw,
        { unit := unitOf c.subject, addressing := .chs, cylinder := c.testCylinder, head := headOf c.subject,
          sector := c.firstSector, count := c.sectorCount, offset := c.offset1 + j * c.step, retryOn := false }⟩
    ∃ s', exec (.pointCompletion t k) s = .next s' ∧
      s'.port =
        { state := .sweep (unitOf c.subject) .running (max s.now t + c.taskTimeout * 10000) c.taskTimeout
          graceRun := 0
          abort := false
          task := some ⟨next, s.opensTask (unitOf c.subject)⟩ } ∧
      (∃ c', s'.engine = some c' ∧ c'.flight = some ⟨next, .point j, 0, 0⟩ ∧ c'.position = c.position + 1 ∧
        c'.subject = c.subject ∧ c'.pass = c.pass) ∧
      s'.swmark = (if s.plan.swmarkMode = .point then ⟨true, none, some (max s.now t + 10)⟩ else s.swmark) ∧
      s'.entries = s.entries ∧ s'.queue = s.queue ∧ s'.log = s.log ∧ s'.slot = s.slot

/-- The last point task ends the sweep with its fit: the record and the curve are written, and the subject commits,
goes SUSPECT with the new centre as its candidate, or goes FAILED, by the outcome (R64, R83, R86 to R89, R101 to
R103). A fit without an opening is a failure: a first one puts the subject back and requeues it at the tail, a second
one sends it to FAILED, and the curve is replaced all the same (R76, R90, R91, R95, R103). SWMARK marks the end and
the blink is over (R182, R183). The hold condition keeps the engine from looking. -/
def Obligations.LastPointEndsTheSweepWithItsFit : Prop :=
  ∀ (t : Nat) (k : Completion) (s : State) (c : Context) (task : Task) (i d n e m : Nat) (u : UnitNo),
    s.engine = some c → c.flight = some ⟨task, .point i, d, n⟩ → s.port.state = .sweep u .running e m →
    s.driveAnswers = true → s.holdOn = true → s.benchAsks = none → s.presented = [] →
    c.points ≤ c.position + 1 → c.passes ≤ c.pass →
    let sums := c.sums.set i (c.sums.getD i 0 + (if k.status = .good then n else n + 4096 * (c.sectorCount - d)))
    let fit := { c with flight := none, sums := sums }.fit
    let before := s.entry c.subject
    let named : FitOutcome → SweepOutcome := fun f => match f with
      | .committed => .committed
      | .marginal => .marginal
      | .confirmed => .confirmed
      | .jump => .jump
      | .failedJump => .failedJump
    let ends := fun (s' : State) (outcome : SweepOutcome) (opening : Option Opening) => s'.engine = none ∧
      s'.counters = { s.counters with sweepsEnded := s.counters.sweepsEnded + 1 } ∧
      s'.log = (if s.log.length < 30 then s.log else s.log.tail) ++
        [⟨s.nextSeq, c.subject, c.cause, outcome, c.points, opening⟩] ∧
      s'.nextSeq = s.nextSeq + 1 ∧ s'.curve.seq = s.nextSeq ∧
      s'.curve.points = (List.range sums.length).map (fun x : Nat => (c.offset1 + x * c.step, sums.getD x 0)) ∧
      s'.port = { state := .free none, graceRun := s.port.graceRun, abort := false, task := none } ∧
      s'.swmark = s.markerAfterEnding ∧ s'.blink = none ∧ ∀ x, x ≠ c.subject → s'.entry x = s.entry x
    (∀ (o : Opening) (f : FitOutcome), fit = .found o f →
      ∃ s', exec (.pointCompletion t k) s = .next s' ∧ ends s' (named f) (some o) ∧
        (f ∈ [FitOutcome.committed, .marginal, .confirmed] → s'.queue = s.queue ∧
          s'.entry c.subject =
            { before with
              state := if o.quality = .valid then .valid else .marginal
              centre := some o.centre
              candidate := none
              width := o.width
              clipped := o.clipped
              drift := 0
              retries := 0
              age := 0
              lastOutcome := some (named f) }) ∧
        (f = .failedJump → s'.queue = s.queue ∧
          s'.entry c.subject =
            { before with state := .failed, candidate := none, retries := 0, lastOutcome := some .failedJump }) ∧
        (f = .jump → s.plan.inScope c.subject = true → s.isQueued c.subject = false → s.queue.length < 16 →
          s'.queue = s.queue ++ [⟨c.subject, .retry⟩] ∧
          s'.entry c.subject =
            { before with
              state := .suspect, candidate := some o.centre, wanted := none, lastOutcome := some .jump })) ∧
    (fit = .noOpening →
      ∃ s', exec (.pointCompletion t k) s = .next s' ∧ ends s' .noOpening none ∧
        (before.retries = 0 → s.plan.inScope c.subject = true → s.isQueued c.subject = false → s.queue.length < 16 →
          s'.queue = s.queue ++ [⟨c.subject, .retry⟩] ∧
          s'.entry c.subject =
            { before with
              state := c.priorState, candidate := c.priorCandidate, retries := 1, wanted := none
              lastOutcome := some .noOpening }) ∧
        (before.retries ≠ 0 → s'.queue = s.queue ∧
          s'.entry c.subject =
            { before with state := .failed, candidate := none, retries := 0, lastOutcome := some .noOpening }))

/-- A sweep task that runs out of time ends its sweep TIMEOUT: at its completion in ABORTING, at its withholding when
its TASK phase never opened, or at its second expiry, which leaves the port WEDGED. A first failure restores the
subject and requeues it, a second one sends it to FAILED (R90, R91, R137, R138, R139). That the port keeps nothing of
a lay WRITE that goes WEDGED with its sweep is the model's reading (log 20). The hold condition keeps the engine from
looking. -/
def Obligations.TimedOutTaskEndsItsSweep : Prop :=
  ∀ (t : Nat) (k : Completion) (s : State) (c : Context) (u : UnitNo) (e m : Nat) (d : DriveTask),
    s.engine = some c → s.holdOn = true → s.benchAsks = none → s.presented = [] →
    s.port.task = some d →
    let ends := fun s' : State =>
      ((s.entry c.subject).retries = 0 → s.plan.inScope c.subject = true → s.isQueued c.subject = false →
        s.queue.length < 16 → EndsRetried s s' c .timeout) ∧
      ((s.entry c.subject).retries ≠ 0 → EndsFailed s s' c .timeout)
    (s.port.state = .aborting u .running e → s.driveAnswers = true →
      ∃ s', exec (.abortingCompletion t k) s = .next s' ∧ ends s' ∧
        s'.port = { state := .free none, graceRun := s.port.graceRun, abort := false, task := none }) ∧
    (s.port.state = .sweep u .running e m → d.opened = false → e ≤ max s.now t →
      ∃ s', exec (.taskExpiry t) s = .next s' ∧ ends s' ∧
        s'.port = { state := .free none, graceRun := s.port.graceRun, abort := false, task := none }) ∧
    (s.port.state = .aborting u .running e → e ≤ max s.now t →
      ∃ s', exec (.secondExpiry t) s = .next s' ∧ ends s' ∧ s'.port = { s.port with state := .wedged u none })

/-- The first expiry of an open sweep task asserts abort and gives it one more task timeout; before its time there is
no expiry (the model's reading, log 3). The second expiry of a left-over task leaves the port WEDGED on its unit and
ends no sweep (R137, R139). -/
def Obligations.ExpiriesAbortAndWedge : Prop :=
  (∀ (t : Nat) (s : State) (u : UnitNo) (w : Owner) (e m : Nat) (d : DriveTask),
    s.port.state = .sweep u w e m → s.port.task = some d → d.opened = true → s.presented = [] →
    exec (.taskExpiry t) s = .next
      (if e ≤ max s.now t then
        { s.advance t with port := { s.port with state := .aborting u w (e + m * 10000), abort := true } }
      else s.advance t).drivePins) ∧
  ∀ (t : Nat) (s : State) (u : UnitNo) (lay : Option LaySupply) (e : Nat),
    s.port.state = .aborting u (.leftOver lay) e → s.presented = [] →
    exec (.secondExpiry t) s = .next
      (if e ≤ max s.now t then { s.advance t with port := { s.port with state := .wedged u lay } }
      else s.advance t).drivePins

/-- The completion of a left-over task, and a late completion of a WEDGED one, of any status, free the port, release
the abort and reach nothing else: no entry, no record, no sum (R98, R138, R140). Both commands are accepted for a
left-over task in ABORTING, the model's reading (log 21). With no other task asking the port stays FREE. A bench task
WAITING in the slot is granted then, ahead of an asking engine, and an APPLY carries the centre its entry has at this
grant (R8, R98, R130, R138, R140). -/
def Obligations.StrayCompletionsOnlyFreeThePort : Prop :=
  ∀ (t : Nat) (k : Completion) (s : State) (u : UnitNo) (lay : Option LaySupply) (e m : Nat),
    s.driveAnswers = true →
    let answers := fun s' : State =>
      (s.port.state = .sweep u (.leftOver lay) e m ∨ s.port.state = .aborting u (.leftOver lay) e →
        exec (.leftOverCompletion t k) s = .next s') ∧
      (s.port.state = .aborting u (.leftOver lay) e → exec (.abortingCompletion t k) s = .next s') ∧
      (s.port.state = .wedged u lay → s.queue = [] ∨ s.engine ≠ none → exec (.lateCompletion t k) s = .next s')
    (s.benchAsks = none → s.sweepReady = false → s.presented = [] →
      answers (State.drivePins { s.advance t with
        port := { state := .free none, graceRun := s.port.graceRun, abort := false, task := none } })) ∧
    ∀ b : BenchTask, s.slot = some b → b.phase = .waiting →
      (∃ a, b.disp = .apply a) ∨ b.disp = .pass ∧ b.task.op ∉ [Op.write, .spinDown] →
      answers (State.drivePins { s.advance t with
        slot := some { b with phase := .issued }
        port := (s.advance t).portGranted b })

/-- A grace ends at its expiry and not before (the model's reading, log 3); when the engine is asking then, it is
granted its task (`Context.dueFlight`): in LAYING the WRITE of the subject's test sectors, in SWEEPING the READ RAW of
the point at the cursor, with its SWMARK pulse in POINT mode (R53, R57, R58, R59, R62, R130, R132, R133, R182). -/
def Obligations.GraceExpiryLetsTheSweepIn : Prop :=
  ∀ (t : Nat) (s : State) (e : Nat),
    s.port.state = .free (some e) → s.benchAsks = none → s.presented = [] →
    (max s.now t < e → exec (.graceExpiry t) s = .next (s.advance t).drivePins) ∧
    (e ≤ max s.now t → s.sweepReady = false →
      exec (.graceExpiry t) s =
        .next (State.drivePins { s.advance t with port := { s.port with state := .free none } })) ∧
    (∀ c, e ≤ max s.now t → s.sweepReady = true → s.engine = some c →
      ∃ s', exec (.graceExpiry t) s = .next s' ∧
        s'.engine = some { c with flight := some c.dueFlight } ∧
        s'.port =
          { state := .sweep (unitOf c.subject) .running (max s.now t + c.taskTimeout * 10000) c.taskTimeout
            graceRun := 0
            abort := s.port.abort
            task := some ⟨c.dueFlight.task, s.opensTask (unitOf c.subject)⟩ } ∧
        s'.swmark = (if s.plan.swmarkMode = .point ∧ c.phase = .sweeping then
            ⟨true, none, some (max s.now t + 10)⟩ else s.swmark) ∧
        s'.entries = s.entries ∧ s'.queue = s.queue ∧ s'.slot = s.slot ∧ s'.log = s.log)

/-- SPIN DOWN, a declared stop, an unstable interval and a cable reset each end the sweep on their unit with their own
outcome, with the subject put back and first in the queue with cause RESUME, ahead of the records there; from a full
queue the tail record is displaced and its entry marked wanted with its cause (R45, R65, R67, R93, R122, R145, R149).
A cable reset does so in any port state, ABORTING too, and drops a bench task (R40, R141); SWMARK marks the ending and
the blink is over (R182, R183); that a second assertion without a release acts as a fresh one is the model's choice
(log 11). At the other endings a task of the sweep in flight is left over: the port stays in SWEEP or ABORTING with
the expiry it had, no abort is asserted, and a lay keeps what its sectors need; with none in flight the port is as it
was, or the SPIN DOWN's (R66, R97, R98, R131). The hold condition keeps the engine from looking. -/
def Obligations.OutsideEventsEndTheSweepWithResume : Prop :=
  ∀ (t : Nat) (s : State) (c : Context), s.engine = some c → s.active = true → s.holdOn = true →
    s.queue.length < 16 ∨ s.isQueued c.subject = false →
    let kept : Option LaySupply := match c.flight with
      | some ⟨_, .lay, _, _⟩ => some
          { unit := unitOf c.subject, head := headOf c.subject, cylinder := c.testCylinder
            firstSector := c.firstSector, sectorCount := c.sectorCount, pattern := c.pattern }
      | _ => none
    let left : Port := { s.port with
      state := match s.port.state with
        | .sweep u .running e n => .sweep u (.leftOver kept) e n
        | .aborting u .running e => .aborting u (.leftOver kept) e
        | other => other }
    (∃ s', exec (.cableReset t) s = .next s' ∧ EndsResumed s s' c .abortedReset ∧ s'.slot = none ∧
      s'.port = { state := .free none, graceRun := 0, abort := false, task := none }) ∧
    (∀ e, (s.monitors.get (unitOf c.subject)).stopTimer = some e → e ≤ max s.now t → s.presented = [] →
      s.benchAsks = none →
      ∃ s', exec (.stopTimerExpiry t (unitOf c.subject)) s = .next s' ∧ EndsResumed s s' c .abortedSpindle ∧
        s'.port = left ∧
        (s'.monitors.get (unitOf c.subject)).state = .stopped ∧
        (s'.monitors.get (unitOf c.subject)).stopRemembered = true) ∧
    (∀ last p, (s.monitors.get (unitOf c.subject)).state = .settled →
      (s.monitors.get (unitOf c.subject)).lastPulse = some last →
      (s.monitors.get (unitOf c.subject)).lastPeriod = some p → last + 1000 ≤ max s.now t →
      p + p / 128 < max s.now t - last ∨ max s.now t - last + p / 128 < p → s.presented = [] → s.benchAsks = none →
      ∃ s', exec (.indexPulse t (unitOf c.subject)) s = .next s' ∧ EndsResumed s s' c .abortedSpindle ∧
        s'.port = left ∧ (s'.monitors.get (unitOf c.subject)).state = .spinningUp) ∧
    (∀ f grace, f.unit = unitOf c.subject → s.benchReady = true → s.presented = [] → s.port.state = .free grace →
      ∃ s', exec (.spinDown t f) s = .next s' ∧
        EndsResumed { s with counters := s.counters.bump .passed } s' c .abortedSpinDown ∧
        s'.port = { s.port with
          state := .bench f.unit
          task := some ⟨⟨.spinDown, f⟩, s.opensTask f.unit⟩ })

/-! ### Spindle monitors, time and lines -/

/-- An index pulse is passed to the bench connector. Under 1000 µs after the last accepted one the monitor ignores it;
one taken in UNKNOWN or STOPPED begins a spin-up with its 500 ms timer; one in SPINNING_UP, SETTLED or STOPPING works
its interval, the first one becoming the period without a test, the others tested against the last; a stable or first
one leaves SETTLED as it is, an unstable one takes it to SPINNING_UP with stable count 0 and no stop remembered by it,
and one accepted more than 2000 ms after the stop began leaves STOPPING for SPINNING_UP (R41, R143 to R146, R149,
R150, R152). The unit does not settle here, and no sweep runs on a unit that leaves SETTLED. `indexOut` is the model's
choice (log 18). -/
def Obligations.IndexPulseIsPassedAndWorked : Prop :=
  ∀ (t : Nat) (u : UnitNo) (s : State), s.resting = true →
    let m := s.monitors.get u
    let now := max s.now t
    let answer := fun m' : Monitor => (Host.Outcome.next
      (State.drivePins { s.advance t with indexOut := some (u, now), monitors := s.monitors.set u m' }) : Result)
    (∀ last, m.lastPulse = some last → now < last + 1000 → exec (.indexPulse t u) s = answer m) ∧
    (m.lastPulse = none → m.state = .unknown ∨ m.state = .stopped → m.lastPeriod = none →
      exec (.indexPulse t u) s = answer { m with
        state := .spinningUp, lastPulse := some now, stopTimer := some (now + 500000) }) ∧
    (∀ last, m.lastPulse = some last → last + 1000 ≤ now →
      let i := now - last
      let stable : Bool := (match m.lastPeriod with
        | none => false
        | some p => decide (i ≤ 2000000 ∧ i ≤ p + p / 128 ∧ p ≤ i + p / 128))
      let worked := { m with
        lastPulse := some now
        lastPeriod := some (min 2000000 i)
        stable := if stable then min 255 (m.stable + 1) else 0
        stopTimer := some (now + 4 * min 2000000 i) }
      (m.state = .spinningUp ∧ worked.stable < s.plan.settleCount ∨
        m.state = .settled ∧ (stable = true ∨ m.lastPeriod = none) ∨
        m.state = .stopping ∧ (∃ since, m.stoppingSince = some since ∧ now ≤ since + 2000000) →
        exec (.indexPulse t u) s = answer worked) ∧
      (m.state = .settled → stable = false → m.lastPeriod ≠ none →
        (∀ c, s.engine = some c → unitOf c.subject ≠ u) →
        exec (.indexPulse t u) s = answer { worked with state := .spinningUp, stable := 0 }) ∧
      (m.state = .stopping → ∀ since, m.stoppingSince = some since → since + 2000000 < now →
        exec (.indexPulse t u) s = answer { worked with state := .spinningUp, stable := 0, stoppingSince := none }))

/-- A unit that settles after a remembered stop sends its in-scope VALID and MARGINAL entries STALE in map order, each
asking for a sweep with cause SPINUP, and no others, and forgets the stop; one that settles with no stop remembered
changes no entry and asks for none (R17, R44, R147, R148). Its interval is worked: the new period, the stable count
and the stop timer (R144, R145). The hold condition keeps the engine from looking. `indexOut` is the model's choice
(log 18). -/
def Obligations.SettlingAfterAStopMakesEntriesStale : Prop :=
  ∀ (t : Nat) (u : UnitNo) (s : State) (last p : Nat),
    s.resting = true → s.holdOn = true → s.engine = none → (s.monitors.get u).state = .spinningUp →
    (s.monitors.get u).lastPulse = some last → (s.monitors.get u).lastPeriod = some p →
    last + 1000 ≤ max s.now t → max s.now t - last ≤ 2000000 →
    max s.now t - last ≤ p + p / 128 → p ≤ max s.now t - last + p / 128 →
    s.plan.settleCount ≤ min 255 ((s.monitors.get u).stable + 1) →
    let asks : EntryNo → Bool := fun i => (s.monitors.get u).stopRemembered && decide (unitOf i = u) &&
      s.plan.inScope i && (decide ((s.entry i).state = .valid) || decide ((s.entry i).state = .marginal))
    ∃ s', exec (.indexPulse t u) s = .next s' ∧ StaleInMapOrder s s' s.entry asks .spinUp ∧
      s' = State.drivePins { s.advance t with
        indexOut := some (u, max s.now t)
        queue := s'.queue
        entries := s'.entries
        monitors := s.monitors.set u
          { s.monitors.get u with
            state := .settled
            lastPulse := some (max s.now t)
            lastPeriod := some (max s.now t - last)
            stable := min 255 ((s.monitors.get u).stable + 1)
            stopRemembered := false
            stopTimer := some (max s.now t + 4 * (max s.now t - last)) } }

/-- The stop timer declares the spindle stopped when it has run out, and not before (R145; log 3). No sweep runs on
the unit here. -/
def Obligations.StopTimerDeclaresAStop : Prop :=
  ∀ (t : Nat) (u : UnitNo) (s : State), s.resting = true →
    (∀ c, s.engine = some c → unitOf c.subject ≠ u) →
    (∀ e, (s.monitors.get u).stopTimer = some e → e ≤ max s.now t →
      exec (.stopTimerExpiry t u) s = .next
        (State.drivePins { s.advance t with
          monitors := s.monitors.set u
            { state := .stopped, lastPulse := none, lastPeriod := none, stable := 0, stopRemembered := true,
              stoppingSince := none, stopTimer := none } })) ∧
    ((∀ e, (s.monitors.get u).stopTimer = some e → max s.now t < e) →
      exec (.stopTimerExpiry t u) s = .next (s.advance t).drivePins)

/-- At each whole second every entry with a centre grows older, up to 65535 s, in every state and scope; then exactly
the in-scope VALID and MARGINAL entries whose age has reached a nonzero maximum age go STALE in map order, each asking
for a sweep with cause AGE; before the second nothing happens (R15, R16, R44; log 3). The hold condition keeps the
engine from looking. -/
def Obligations.SecondMarkAgesTheMap : Prop :=
  ∀ (t : Nat) (s : State), s.resting = true → s.holdOn = true →
    (max s.now t < (s.seconds + 1) * 1000000 → exec (.secondMark t) s = .next (s.advance t).drivePins) ∧
    ((s.seconds + 1) * 1000000 ≤ max s.now t →
      let aged : EntryNo → Entry := fun i =>
        { s.entry i with
          age := if (s.entry i).centre.isSome then min 65535 ((s.entry i).age + 1) else (s.entry i).age }
      let asks : EntryNo → Bool := fun i => s.plan.inScope i && decide (s.plan.maxAge ≠ 0) &&
        decide (s.plan.maxAge ≤ (aged i).age) &&
        (decide ((s.entry i).state = .valid) || decide ((s.entry i).state = .marginal))
      ∃ s', exec (.secondMark t) s = .next s' ∧ StaleInMapOrder s s' aged asks .age ∧
        s' = State.drivePins { s.advance t with
          seconds := s.seconds + 1
          queue := s'.queue
          entries := s'.entries })

/-- The HOLD line's debounce: a level that differs from the debounced state runs the 20 ms timer, a matching one
clears it; when the timer has run out the debounced state changes, and before that it does not (R185). The queue is
empty, so the engine finds no record when the hold goes off, and no sweep runs. The READY blink turns over every 500
ms, the SWMARK gap ends with the line high and the SWMARK pulse with it low, each at its time and not before (R182,
R183). That a timer's command does nothing before its time, and the microsecond, are the model's (log 3, log 4). -/
def Obligations.LinesKeepTheirTimes : Prop :=
  (∀ (t : Nat) (s : State), s.resting = true →
    (∀ low, exec (.holdLineChange t low) s = .next
      (State.drivePins { s.advance t with
        holdLine :=
          { rawLow := low
            asserted := s.holdLine.asserted
            timer := if low = s.holdLine.asserted then none
              else some (s.holdLine.timer.getD (max s.now t + 20000)) } })) ∧
    ((∀ e, s.holdLine.timer = some e → max s.now t < e) →
      exec (.holdDebounceExpiry t) s = .next (s.advance t).drivePins) ∧
    (∀ e, s.holdLine.timer = some e → e ≤ max s.now t → s.queue = [] → s.engine = none →
      exec (.holdDebounceExpiry t) s = .next
        (State.drivePins { s.advance t with
          holdLine := { s.holdLine with asserted := !s.holdLine.asserted, timer := none } }))) ∧
  ∀ (t : Nat) (s : State), s.resting = true →
    exec (.readyBlinkEdge t) s = .next
      (State.drivePins { s.advance t with
        blink := s.blink.map fun b => if b.next ≤ max s.now t then ⟨!b.lit, b.next + 500000⟩ else b }) ∧
    exec (.swmarkGapEnd t) s = .next
      (State.drivePins { s.advance t with
        swmark := if ∃ e, s.swmark.gapEnd = some e ∧ e ≤ max s.now t then
            { s.swmark with level := true, gapEnd := none }
          else s.swmark }) ∧
    exec (.swmarkPulseEnd t) s = .next
      (State.drivePins { s.advance t with
        swmark := if ∃ e, s.swmark.pulseEnd = some e ∧ e ≤ max s.now t then
            { s.swmark with level := false, pulseEnd := none }
          else s.swmark })

/-! ### The sweep queue and the engine's take -/

/-- A tail request is judged in the five steps of R44. -/
def Obligations.TailRequestInFiveSteps : Prop :=
  ∀ (s : State) (i : EntryNo) (cause : Cause),
    let others := ∀ t : State, t = s.request i cause → ∀ x, x ≠ i → t.entry x = s.entry x
    others ∧
    (s.plan.inScope i = false → s.request i cause = s) ∧
    (s.plan.inScope i = true → (∃ c, s.engine = some c ∧ c.subject = i) → s.request i cause = s) ∧
    (s.plan.inScope i = true → (∀ c, s.engine = some c → c.subject ≠ i) →
      ((∃ r ∈ s.queue, r.entry = i) → s.request i cause = s) ∧
      ((∀ r ∈ s.queue, r.entry ≠ i) →
        (s.queue.length < 16 → (s.request i cause).queue = s.queue ++ [⟨i, cause⟩] ∧
          (s.request i cause).entry i = { s.entry i with wanted := none }) ∧
        (16 ≤ s.queue.length → (s.request i cause).queue = s.queue ∧
          (s.request i cause).entry i = { s.entry i with wanted := some cause })))

/-- The engine that looks takes the eligible record nearest the front and no other: a record is eligible when its unit
is SETTLED, the port is not WEDGED on it and its entry is in scope. The subject goes to MEASURING, its candidate into
the context, which is filled from the record, the subject's entry, its zone's row and the plan in force; SWMARK in
SWEEP mode goes high, after a 2 µs gap when another sweep has just ended, and the READY blink starts lit (R9, R48,
R49, R51, R52, R182, R183). -/
def Obligations.EngineTakesTheFirstEligibleRecord : Prop :=
  ∀ (s : State) (backToBack : Bool),
    let fit := fun r : QueueRec =>
      s.settled (unitOf r.entry) = true ∧ s.wedgedOn (unitOf r.entry) = false ∧ s.plan.inScope r.entry = true
    ((s.engine ≠ none ∨ s.holdOn = true ∨ s.active = false ∨ ∀ r ∈ s.queue, ¬ fit r) → s.look backToBack = s) ∧
    ∀ (front back : List QueueRec) (r : QueueRec),
      s.engine = none → s.holdOn = false → s.active = true → s.queue = front ++ r :: back →
      (∀ x ∈ front, ¬ fit x) → fit r → s.queued.Nodup → (∀ i, (s.entry i).wanted = none) →
      let row := s.plan.zones[zoneOf r.entry]
      let points := ((s.plan.offset2 - s.plan.offset1) / s.plan.step).toNat + 1
      (s.look backToBack).queue = front ++ back ∧
      (s.look backToBack).entry r.entry = { s.entry r.entry with state := .measuring, candidate := none } ∧
      (∀ i, i ≠ r.entry → (s.look backToBack).entry i = s.entry i) ∧
      (s.look backToBack).swmark =
        (if s.plan.swmarkMode = .sweep then
          (if backToBack then ⟨false, some (s.now + 2), none⟩ else ⟨true, none, none⟩)
        else s.swmark) ∧
      (s.look backToBack).blink = some ⟨true, s.now + 500000⟩ ∧
      (s.look backToBack).engine = some
        { phase := if (s.entry r.entry).laid then .sweeping else .laying
          subject := r.entry
          cause := r.cause
          priorState := (s.entry r.entry).state
          priorCentre := (s.entry r.entry).centre
          priorCandidate := (s.entry r.entry).candidate
          testCylinder := row.testCylinder
          firstSector := row.firstSector
          sectorCount := row.sectorCount
          offset1 := s.plan.offset1
          offset2 := s.plan.offset2
          step := s.plan.step
          points := points
          order := s.plan.order
          mirror := s.plan.mirror
          passes := s.plan.passes
          threshold := s.plan.threshold
          minWidth := s.plan.minWidth
          maxMove := s.plan.maxMove
          pattern := s.plan.pattern
          taskTimeout := s.plan.taskTimeout
          pass := 1
          position := 0
          sums := List.replicate points 0
          flight := none }

/-- The re-offer brings wanted entries into the queue in map order until it is full or none is left (R46). -/
def Obligations.ReofferFillsTheQueue : Prop :=
  ∀ s : State, s.queue.length ≤ 16 →
    s.reoffer.queue.length ≤ 16 ∧
    (∃ added, s.reoffer.queue = s.queue ++ added ∧ (added.map (·.entry)).Pairwise (· < ·) ∧
      (∀ r ∈ added, (s.entry r.entry).wanted = some r.cause ∧ (s.reoffer.entry r.entry).wanted = none) ∧
      ∀ i, (s.entry i).wanted ≠ none → (∀ r ∈ added, r.entry ≠ i) →
        s.reoffer.queue.length = 16 ∧ s.reoffer.entry i = s.entry i ∧ ∀ r ∈ added, r.entry < i)

/-! ### Pattern, walk and fit -/

/-- Word `k` of the reference pattern, stored lower byte first, and neighbouring words differ; a sector that reads
back whole counts 0 (R55, R60). The lay WRITE of the running sweep is supplied from the same formula in its DATA
phase, its K sectors and no more, and so is a left-over lay WRITE from what it keeps (R53, R98). That the supply is a
function of the state, its K sectors and no more, is the model's reading (log 20). -/
def Obligations.PatternWordsFollowTheFormula : Prop :=
  (∀ (s : State) (u : UnitNo) (e m d n q : Nat) (c : Context) (task : Task),
    s.port.state = .sweep u .running e m → s.driveAnswers = true → s.engine = some c →
    c.flight = some ⟨task, .lay, d, n⟩ →
    (q < c.sectorCount →
      s.laySector q = some (patternSector c.pattern (c.firstSector + q) (headOf c.subject).val c.testCylinder)) ∧
    (c.sectorCount ≤ q → s.laySector q = none)) ∧
  (∀ (s : State) (u : UnitNo) (e m q : Nat) (lay : LaySupply), s.driveAnswers = true →
    s.port.state = .sweep u (.leftOver (some lay)) e m ∨ s.port.state = .aborting u (.leftOver (some lay)) e ∨
      s.port.state = .wedged u (some lay) →
    (q < lay.sectorCount →
      s.laySector q = some (patternSector lay.pattern (lay.firstSector + q) lay.head.val lay.cylinder)) ∧
    (lay.sectorCount ≤ q → s.laySector q = none)) ∧
  ∀ pn s h c : Nat,
    (patternSector pn s h c).length = 512 ∧
    (∀ k, k < 256 →
      wordAt (patternSector pn s h c) (2 * k) = (4099 * pn + 40503 * (k + 1) + 257 * s + 31 * h + c) % 65536) ∧
    (∀ k, k < 255 →
      wordAt (patternSector pn s h c) (2 * k) ≠ wordAt (patternSector pn s h c) (2 * (k + 1))) ∧
    ∀ check : List Byte, errorCount pn s h c (patternSector pn s h c ++ check) = 0

/-- Each order's walk, and that a pass visits every point index exactly once, mirrored or not (R57, R58). -/
def Obligations.WalkVisitsEveryPointOnce : Prop :=
  ∀ n : Nat, 1 ≤ n →
    walk .ascending n = List.range n ∧ walk .descending n = (List.range n).reverse ∧
    (walk .centreOut n).head? = some ((n - 1) / 2) ∧
    (∀ k, 1 ≤ k → k < n → (walk .centreOut n)[k]? =
      some (if k % 2 = 1 then (n - 1) / 2 + (k + 1) / 2 else (n - 1) / 2 - k / 2)) ∧
    ∀ (o : Order) (mirror : Bool) (p : Nat), (passWalk o mirror n p).Perm (List.range n) ∧
      (passWalk o mirror n p = if mirror = true ∧ p % 2 = 0 then (walk o n).reverse else walk o n)

/-- The smoothed value: neighbours once, the point twice, the end point itself for a missing neighbour (R72). -/
def Obligations.SmoothingWeightsNeighboursOnce : Prop :=
  ∀ e : List Nat,
    (∀ i (_ : i + 2 < e.length), smoothed e (i + 1) = e[i] + 2 * e[i + 1] + e[i + 2]) ∧
    (∀ _ : 2 ≤ e.length, smoothed e 0 = 3 * e[0] + e[1] ∧
      smoothed e (e.length - 1) = e[e.length - 2] + 3 * e[e.length - 1]) ∧
    (∀ _ : e.length = 1, smoothed e 0 = 4 * e[0]) ∧
    ∀ b, (∀ x ∈ e, x ≤ b) → ∀ i, i < e.length → smoothed e i ≤ 4 * b

/-- The opening is a run of passing points with a failing point or an end on each side, of the greatest length, and
among such runs the one nearest the reference, the lower of two as near; there is none only when no point passes (R74,
R75). The fit works with the limit 4 × T × K × P, the points at or below it, and the prior centre or 0 as the
reference, and it gives NO_OPENING exactly when every smoothed value exceeds the limit (R71, R73, R75, R76). -/
def Obligations.OpeningIsTheLongestNearestRun : Prop :=
  (∀ c : Context,
    (c.fit = .noOpening ↔
      ∀ i, i < c.sums.length → 4 * c.threshold * c.sectorCount * c.passes < smoothed c.sums i) ∧
    ∀ o f, c.fit = .found o f → ∃ r,
      chooseRun c.offset1 c.step (c.priorCentre.getD 0) (runs ((List.range c.sums.length).map fun i =>
        decide (smoothed c.sums i ≤ 4 * c.threshold * c.sectorCount * c.passes))) = some r ∧
      o = measureOpening c.sums (4 * c.threshold * c.sectorCount * c.passes) c.offset1 c.step c.minWidth r ∧
      f = jumpTest o c.maxMove c.priorState c.priorCentre c.priorCandidate) ∧
  ∀ (pass : List Bool) (offset1 : Int) (step : Nat) (ref : Int), 1 ≤ step →
    let isRun := fun a b : Nat => a ≤ b ∧ (∀ i, a ≤ i → i ≤ b → pass[i]? = some true) ∧
      (∀ i, i + 1 = a → pass[i]? = some false) ∧ (b + 1 < pass.length → pass[b + 1]? = some false)
    let far := fun a b : Nat => (pointOffset offset1 step a + pointOffset offset1 step b - 2 * ref).natAbs
    (chooseRun offset1 step ref (runs pass) = none ↔ true ∉ pass) ∧
    ∀ p q, chooseRun offset1 step ref (runs pass) = some (p, q) →
      isRun p q ∧ ∀ a b, isRun a b → (a, b) ≠ (p, q) →
        b - a < q - p ∨ (b - a = q - p ∧ (far p q < far a b ∨ (far p q = far a b ∧ p < a)))

/-- A clipped edge lies on its end point, any other the displacement away from its passing point (R77, R78). The
displacement is the quotient rounded to the nearest, an exact half down, and lies in 0..4 × D (R79). The centre is the
sum of the edges over 8 to the nearest whole number, an exact half toward zero, with the sum's sign (R80). -/
def Obligations.EdgesAndCentreAreRounded : Prop :=
  (∀ (e : List Nat) (limit step minWidth p q : Nat) (offset1 : Int), p ≤ q → q < e.length →
    let o := measureOpening e limit offset1 step minWidth (p, q)
    o.edgeL = 4 * (offset1 + p * step) -
      (if p = 0 then 0 else edgeDisplacement step limit (smoothed e p) (smoothed e (p - 1)) : Nat) ∧
    o.edgeR = 4 * (offset1 + q * step) +
      (if q + 1 = e.length then 0 else edgeDisplacement step limit (smoothed e q) (smoothed e (q + 1)) : Nat) ∧
    o.centre = middle (o.edgeL + o.edgeR) ∧
    o.clipped = (if p = 0 then (if q + 1 = e.length then .both else .low)
      else if q + 1 = e.length then .high else .none)) ∧
  (∀ step limit sx sf : Nat, sx ≤ limit → limit < sf →
    let n := 4 * step * (limit - sx)
    let v := sf - sx
    let r := edgeDisplacement step limit sx sf
    r = n / v + (if 2 * (n % v) > v then 1 else 0) ∧ 2 * n ≤ 2 * v * r + v ∧ 2 * v * r < 2 * n + v ∧ r ≤ 4 * step) ∧
  ∀ sum : Int,
    8 * (middle sum).natAbs ≤ sum.natAbs + 3 ∧ sum.natAbs ≤ 8 * (middle sum).natAbs + 4 ∧
    (0 ≤ sum → 0 ≤ middle sum) ∧ (sum ≤ 0 → middle sum ≤ 0)

/-- The edges of an opening lie in order between the first and the last offset, the width is their distance, and the
centre lies within the offset range (R77, R78, R81, R82). -/
def Obligations.OpeningLiesWithinTheOffsets : Prop :=
  ∀ (e : List Nat) (limit step minWidth p q : Nat) (offset1 : Int), p ≤ q → q < e.length →
    (∀ i, p ≤ i → i ≤ q → smoothed e i ≤ limit) →
    (∀ i, i + 1 = p → limit < smoothed e i) → (q + 1 < e.length → limit < smoothed e (q + 1)) →
    let o := measureOpening e limit offset1 step minWidth (p, q)
    let lo := offset1
    let hi := offset1 + ((e.length - 1 : Nat) : Int) * step
    4 * lo ≤ o.edgeL ∧ o.edgeL ≤ o.edgeR ∧ o.edgeR ≤ 4 * hi ∧ (o.width : Int) = o.edgeR - o.edgeL ∧
    lo ≤ o.centre ∧ o.centre ≤ hi ∧
    (p = 0 → o.edgeL = 4 * lo) ∧ (q + 1 = e.length → o.edgeR = 4 * hi) ∧
    (o.quality = .valid ↔ p ≠ 0 ∧ q + 1 ≠ e.length ∧ 4 * (minWidth : Int) ≤ o.edgeR - o.edgeL)

/-- The jump test decides by its five steps, the first that applies, and a commit stores this sweep's centre, for
CONFIRMED as for the others (R83). A SUSPECT prior state has its candidate (R3). -/
def Obligations.JumpTestInFiveSteps : Prop :=
  ∀ (o : Opening) (maxMove : Nat) (prior : EntryState) (centre candidate : Option Int),
    (prior = .suspect → candidate ≠ none) →
    let test := jumpTest o maxMove prior centre candidate
    let commits := test = if o.quality = .valid then FitOutcome.committed else .marginal
    (centre = none → commits) ∧
    (test ∈ [FitOutcome.committed, .marginal, .confirmed] → ∀ (e : Entry) (c : Context),
      (e.afterEnding c (.fit (.found o test))).centre = some o.centre) ∧
    ∀ c, centre = some c →
      ((o.centre - c).natAbs ≤ maxMove → commits) ∧
      (maxMove < (o.centre - c).natAbs →
        (∀ d, prior = .suspect → candidate = some d →
          ((o.centre - d).natAbs ≤ maxMove → test = .confirmed) ∧
          (maxMove < (o.centre - d).natAbs → test = .failedJump)) ∧
        (prior ≠ .suspect → test = .jump))
end

