-- ==== Sys2Proof/Laws/State.lean ====
section
/-! SUPPORT. The named updates of State: what each field and each reading holds after each, true by definition. -/

namespace Sys2Proof.Machine

variable (s : State)

/-! ### advance -/

@[simp] theorem State.advance_pending (t : Nat) : (s.advance t).pending = s.pending := rfl
@[simp] theorem State.advance_now (t : Nat) : (s.advance t).now = max s.now t := rfl
@[simp] theorem State.advance_seconds (t : Nat) : (s.advance t).seconds = s.seconds := rfl
@[simp] theorem State.advance_interval (t : Nat) : (s.advance t).interval = s.interval := rfl
@[simp] theorem State.advance_straps (t : Nat) : (s.advance t).straps = s.straps := rfl
@[simp] theorem State.advance_cableReset (t : Nat) : (s.advance t).cableReset = s.cableReset := rfl
@[simp] theorem State.advance_driveShows (t : Nat) : (s.advance t).driveShows = s.driveShows := rfl
@[simp] theorem State.advance_indexOut (t : Nat) : (s.advance t).indexOut = s.indexOut := rfl
@[simp] theorem State.advance_presented (t : Nat) : (s.advance t).presented = s.presented := rfl
@[simp] theorem State.advance_slot (t : Nat) : (s.advance t).slot = s.slot := rfl
@[simp] theorem State.advance_benchData (t : Nat) : (s.advance t).benchData = s.benchData := rfl
@[simp] theorem State.advance_driveData (t : Nat) : (s.advance t).driveData = s.driveData := rfl
@[simp] theorem State.advance_counters (t : Nat) : (s.advance t).counters = s.counters := rfl
@[simp] theorem State.advance_geometry (t : Nat) : (s.advance t).geometry = s.geometry := rfl
@[simp] theorem State.advance_entries (t : Nat) : (s.advance t).entries = s.entries := rfl
@[simp] theorem State.advance_queue (t : Nat) : (s.advance t).queue = s.queue := rfl
@[simp] theorem State.advance_engine (t : Nat) : (s.advance t).engine = s.engine := rfl
@[simp] theorem State.advance_log (t : Nat) : (s.advance t).log = s.log := rfl
@[simp] theorem State.advance_nextSeq (t : Nat) : (s.advance t).nextSeq = s.nextSeq := rfl
@[simp] theorem State.advance_curve (t : Nat) : (s.advance t).curve = s.curve := rfl
@[simp] theorem State.advance_port (t : Nat) : (s.advance t).port = s.port := rfl
@[simp] theorem State.advance_plan (t : Nat) : (s.advance t).plan = s.plan := rfl
@[simp] theorem State.advance_planEvent (t : Nat) : (s.advance t).planEvent = s.planEvent := rfl
@[simp] theorem State.advance_copy (t : Nat) : (s.advance t).copy = s.copy := rfl
@[simp] theorem State.advance_snapNumber (t : Nat) : (s.advance t).snapNumber = s.snapNumber := rfl
@[simp] theorem State.advance_snapshot (t : Nat) : (s.advance t).snapshot = s.snapshot := rfl
@[simp] theorem State.advance_monitors (t : Nat) : (s.advance t).monitors = s.monitors := rfl
@[simp] theorem State.advance_holdLine (t : Nat) : (s.advance t).holdLine = s.holdLine := rfl
@[simp] theorem State.advance_planHold (t : Nat) : (s.advance t).planHold = s.planHold := rfl
@[simp] theorem State.advance_swmark (t : Nat) : (s.advance t).swmark = s.swmark := rfl
@[simp] theorem State.advance_blink (t : Nat) : (s.advance t).blink = s.blink := rfl
@[simp] theorem State.advance_pins (t : Nat) : (s.advance t).pins = s.pins := rfl
@[simp] theorem State.advance_entry (t : Nat) (k : EntryNo) : (s.advance t).entry k = s.entry k := rfl
@[simp] theorem State.advance_active (t : Nat) : (s.advance t).active = s.active := rfl
@[simp] theorem State.advance_holdOn (t : Nat) : (s.advance t).holdOn = s.holdOn := rfl
@[simp] theorem State.advance_isSubject (t : Nat) (k : EntryNo) : (s.advance t).isSubject k = s.isSubject k := rfl
@[simp] theorem State.advance_isQueued (t : Nat) (k : EntryNo) : (s.advance t).isQueued k = s.isQueued k := rfl
@[simp] theorem State.advance_wedgedOn (t : Nat) (u : UnitNo) : (s.advance t).wedgedOn u = s.wedgedOn u := rfl
@[simp] theorem State.advance_settled (t : Nat) (u : UnitNo) : (s.advance t).settled u = s.settled u := rfl
@[simp] theorem State.advance_sweepReady (t : Nat) : (s.advance t).sweepReady = s.sweepReady := rfl
@[simp] theorem State.advance_eligible (t : Nat) (r : QueueRec) : (s.advance t).eligible r = s.eligible r := rfl
@[simp] theorem State.advance_benchReady (t : Nat) : (s.advance t).benchReady = s.benchReady := rfl

/-! ### setSlot -/

@[simp] theorem State.setSlot_pending (b : Option BenchTask) : (s.setSlot b).pending = s.pending := rfl
@[simp] theorem State.setSlot_now (b : Option BenchTask) : (s.setSlot b).now = s.now := rfl
@[simp] theorem State.setSlot_seconds (b : Option BenchTask) : (s.setSlot b).seconds = s.seconds := rfl
@[simp] theorem State.setSlot_interval (b : Option BenchTask) : (s.setSlot b).interval = s.interval := rfl
@[simp] theorem State.setSlot_straps (b : Option BenchTask) : (s.setSlot b).straps = s.straps := rfl
@[simp] theorem State.setSlot_cableReset (b : Option BenchTask) : (s.setSlot b).cableReset = s.cableReset := rfl
@[simp] theorem State.setSlot_driveShows (b : Option BenchTask) : (s.setSlot b).driveShows = s.driveShows := rfl
@[simp] theorem State.setSlot_indexOut (b : Option BenchTask) : (s.setSlot b).indexOut = s.indexOut := rfl
@[simp] theorem State.setSlot_presented (b : Option BenchTask) : (s.setSlot b).presented = s.presented := rfl
@[simp] theorem State.setSlot_slot (b : Option BenchTask) : (s.setSlot b).slot = b := rfl
@[simp] theorem State.setSlot_benchData (b : Option BenchTask) : (s.setSlot b).benchData = s.benchData := rfl
@[simp] theorem State.setSlot_driveData (b : Option BenchTask) : (s.setSlot b).driveData = s.driveData := rfl
@[simp] theorem State.setSlot_counters (b : Option BenchTask) : (s.setSlot b).counters = s.counters := rfl
@[simp] theorem State.setSlot_geometry (b : Option BenchTask) : (s.setSlot b).geometry = s.geometry := rfl
@[simp] theorem State.setSlot_entries (b : Option BenchTask) : (s.setSlot b).entries = s.entries := rfl
@[simp] theorem State.setSlot_queue (b : Option BenchTask) : (s.setSlot b).queue = s.queue := rfl
@[simp] theorem State.setSlot_engine (b : Option BenchTask) : (s.setSlot b).engine = s.engine := rfl
@[simp] theorem State.setSlot_log (b : Option BenchTask) : (s.setSlot b).log = s.log := rfl
@[simp] theorem State.setSlot_nextSeq (b : Option BenchTask) : (s.setSlot b).nextSeq = s.nextSeq := rfl
@[simp] theorem State.setSlot_curve (b : Option BenchTask) : (s.setSlot b).curve = s.curve := rfl
@[simp] theorem State.setSlot_port (b : Option BenchTask) : (s.setSlot b).port = s.port := rfl
@[simp] theorem State.setSlot_plan (b : Option BenchTask) : (s.setSlot b).plan = s.plan := rfl
@[simp] theorem State.setSlot_planEvent (b : Option BenchTask) : (s.setSlot b).planEvent = s.planEvent := rfl
@[simp] theorem State.setSlot_copy (b : Option BenchTask) : (s.setSlot b).copy = s.copy := rfl
@[simp] theorem State.setSlot_snapNumber (b : Option BenchTask) : (s.setSlot b).snapNumber = s.snapNumber := rfl
@[simp] theorem State.setSlot_snapshot (b : Option BenchTask) : (s.setSlot b).snapshot = s.snapshot := rfl
@[simp] theorem State.setSlot_monitors (b : Option BenchTask) : (s.setSlot b).monitors = s.monitors := rfl
@[simp] theorem State.setSlot_holdLine (b : Option BenchTask) : (s.setSlot b).holdLine = s.holdLine := rfl
@[simp] theorem State.setSlot_planHold (b : Option BenchTask) : (s.setSlot b).planHold = s.planHold := rfl
@[simp] theorem State.setSlot_swmark (b : Option BenchTask) : (s.setSlot b).swmark = s.swmark := rfl
@[simp] theorem State.setSlot_blink (b : Option BenchTask) : (s.setSlot b).blink = s.blink := rfl
@[simp] theorem State.setSlot_pins (b : Option BenchTask) : (s.setSlot b).pins = s.pins := rfl
@[simp] theorem State.setSlot_entry (b : Option BenchTask) (k : EntryNo) : (s.setSlot b).entry k = s.entry k := rfl
@[simp] theorem State.setSlot_active (b : Option BenchTask) : (s.setSlot b).active = s.active := rfl
@[simp] theorem State.setSlot_holdOn (b : Option BenchTask) : (s.setSlot b).holdOn = s.holdOn := rfl
@[simp] theorem State.setSlot_isSubject (b : Option BenchTask) (k : EntryNo) :
    (s.setSlot b).isSubject k = s.isSubject k := rfl
@[simp] theorem State.setSlot_isQueued (b : Option BenchTask) (k : EntryNo) :
    (s.setSlot b).isQueued k = s.isQueued k := rfl
@[simp] theorem State.setSlot_wedgedOn (b : Option BenchTask) (u : UnitNo) :
    (s.setSlot b).wedgedOn u = s.wedgedOn u := rfl
@[simp] theorem State.setSlot_settled (b : Option BenchTask) (u : UnitNo) : (s.setSlot b).settled u = s.settled u := rfl
@[simp] theorem State.setSlot_sweepReady (b : Option BenchTask) : (s.setSlot b).sweepReady = s.sweepReady := rfl
@[simp] theorem State.setSlot_eligible (b : Option BenchTask) (r : QueueRec) :
    (s.setSlot b).eligible r = s.eligible r := rfl

/-! ### setPort -/

@[simp] theorem State.setPort_pending (p : Port) : (s.setPort p).pending = s.pending := rfl
@[simp] theorem State.setPort_now (p : Port) : (s.setPort p).now = s.now := rfl
@[simp] theorem State.setPort_seconds (p : Port) : (s.setPort p).seconds = s.seconds := rfl
@[simp] theorem State.setPort_interval (p : Port) : (s.setPort p).interval = s.interval := rfl
@[simp] theorem State.setPort_straps (p : Port) : (s.setPort p).straps = s.straps := rfl
@[simp] theorem State.setPort_cableReset (p : Port) : (s.setPort p).cableReset = s.cableReset := rfl
@[simp] theorem State.setPort_driveShows (p : Port) : (s.setPort p).driveShows = s.driveShows := rfl
@[simp] theorem State.setPort_indexOut (p : Port) : (s.setPort p).indexOut = s.indexOut := rfl
@[simp] theorem State.setPort_presented (p : Port) : (s.setPort p).presented = s.presented := rfl
@[simp] theorem State.setPort_slot (p : Port) : (s.setPort p).slot = s.slot := rfl
@[simp] theorem State.setPort_benchData (p : Port) : (s.setPort p).benchData = s.benchData := rfl
@[simp] theorem State.setPort_driveData (p : Port) : (s.setPort p).driveData = s.driveData := rfl
@[simp] theorem State.setPort_counters (p : Port) : (s.setPort p).counters = s.counters := rfl
@[simp] theorem State.setPort_geometry (p : Port) : (s.setPort p).geometry = s.geometry := rfl
@[simp] theorem State.setPort_entries (p : Port) : (s.setPort p).entries = s.entries := rfl
@[simp] theorem State.setPort_queue (p : Port) : (s.setPort p).queue = s.queue := rfl
@[simp] theorem State.setPort_engine (p : Port) : (s.setPort p).engine = s.engine := rfl
@[simp] theorem State.setPort_log (p : Port) : (s.setPort p).log = s.log := rfl
@[simp] theorem State.setPort_nextSeq (p : Port) : (s.setPort p).nextSeq = s.nextSeq := rfl
@[simp] theorem State.setPort_curve (p : Port) : (s.setPort p).curve = s.curve := rfl
@[simp] theorem State.setPort_port (p : Port) : (s.setPort p).port = p := rfl
@[simp] theorem State.setPort_plan (p : Port) : (s.setPort p).plan = s.plan := rfl
@[simp] theorem State.setPort_planEvent (p : Port) : (s.setPort p).planEvent = s.planEvent := rfl
@[simp] theorem State.setPort_copy (p : Port) : (s.setPort p).copy = s.copy := rfl
@[simp] theorem State.setPort_snapNumber (p : Port) : (s.setPort p).snapNumber = s.snapNumber := rfl
@[simp] theorem State.setPort_snapshot (p : Port) : (s.setPort p).snapshot = s.snapshot := rfl
@[simp] theorem State.setPort_monitors (p : Port) : (s.setPort p).monitors = s.monitors := rfl
@[simp] theorem State.setPort_holdLine (p : Port) : (s.setPort p).holdLine = s.holdLine := rfl
@[simp] theorem State.setPort_planHold (p : Port) : (s.setPort p).planHold = s.planHold := rfl
@[simp] theorem State.setPort_swmark (p : Port) : (s.setPort p).swmark = s.swmark := rfl
@[simp] theorem State.setPort_blink (p : Port) : (s.setPort p).blink = s.blink := rfl
@[simp] theorem State.setPort_pins (p : Port) : (s.setPort p).pins = s.pins := rfl
@[simp] theorem State.setPort_entry (p : Port) (k : EntryNo) : (s.setPort p).entry k = s.entry k := rfl
@[simp] theorem State.setPort_active (p : Port) : (s.setPort p).active = s.active := rfl
@[simp] theorem State.setPort_holdOn (p : Port) : (s.setPort p).holdOn = s.holdOn := rfl
@[simp] theorem State.setPort_isSubject (p : Port) (k : EntryNo) : (s.setPort p).isSubject k = s.isSubject k := rfl
@[simp] theorem State.setPort_isQueued (p : Port) (k : EntryNo) : (s.setPort p).isQueued k = s.isQueued k := rfl
@[simp] theorem State.setPort_settled (p : Port) (u : UnitNo) : (s.setPort p).settled u = s.settled u := rfl
@[simp] theorem State.setPort_sweepReady (p : Port) : (s.setPort p).sweepReady = s.sweepReady := rfl
@[simp] theorem State.setPort_benchReady (p : Port) : (s.setPort p).benchReady = s.benchReady := rfl

/-! ### setQueue -/

@[simp] theorem State.setQueue_pending (q : List QueueRec) : (s.setQueue q).pending = s.pending := rfl
@[simp] theorem State.setQueue_now (q : List QueueRec) : (s.setQueue q).now = s.now := rfl
@[simp] theorem State.setQueue_seconds (q : List QueueRec) : (s.setQueue q).seconds = s.seconds := rfl
@[simp] theorem State.setQueue_interval (q : List QueueRec) : (s.setQueue q).interval = s.interval := rfl
@[simp] theorem State.setQueue_straps (q : List QueueRec) : (s.setQueue q).straps = s.straps := rfl
@[simp] theorem State.setQueue_cableReset (q : List QueueRec) : (s.setQueue q).cableReset = s.cableReset := rfl
@[simp] theorem State.setQueue_driveShows (q : List QueueRec) : (s.setQueue q).driveShows = s.driveShows := rfl
@[simp] theorem State.setQueue_indexOut (q : List QueueRec) : (s.setQueue q).indexOut = s.indexOut := rfl
@[simp] theorem State.setQueue_presented (q : List QueueRec) : (s.setQueue q).presented = s.presented := rfl
@[simp] theorem State.setQueue_slot (q : List QueueRec) : (s.setQueue q).slot = s.slot := rfl
@[simp] theorem State.setQueue_benchData (q : List QueueRec) : (s.setQueue q).benchData = s.benchData := rfl
@[simp] theorem State.setQueue_driveData (q : List QueueRec) : (s.setQueue q).driveData = s.driveData := rfl
@[simp] theorem State.setQueue_counters (q : List QueueRec) : (s.setQueue q).counters = s.counters := rfl
@[simp] theorem State.setQueue_geometry (q : List QueueRec) : (s.setQueue q).geometry = s.geometry := rfl
@[simp] theorem State.setQueue_entries (q : List QueueRec) : (s.setQueue q).entries = s.entries := rfl
@[simp] theorem State.setQueue_queue (q : List QueueRec) : (s.setQueue q).queue = q := rfl
@[simp] theorem State.setQueue_engine (q : List QueueRec) : (s.setQueue q).engine = s.engine := rfl
@[simp] theorem State.setQueue_log (q : List QueueRec) : (s.setQueue q).log = s.log := rfl
@[simp] theorem State.setQueue_nextSeq (q : List QueueRec) : (s.setQueue q).nextSeq = s.nextSeq := rfl
@[simp] theorem State.setQueue_curve (q : List QueueRec) : (s.setQueue q).curve = s.curve := rfl
@[simp] theorem State.setQueue_port (q : List QueueRec) : (s.setQueue q).port = s.port := rfl
@[simp] theorem State.setQueue_plan (q : List QueueRec) : (s.setQueue q).plan = s.plan := rfl
@[simp] theorem State.setQueue_planEvent (q : List QueueRec) : (s.setQueue q).planEvent = s.planEvent := rfl
@[simp] theorem State.setQueue_copy (q : List QueueRec) : (s.setQueue q).copy = s.copy := rfl
@[simp] theorem State.setQueue_snapNumber (q : List QueueRec) : (s.setQueue q).snapNumber = s.snapNumber := rfl
@[simp] theorem State.setQueue_snapshot (q : List QueueRec) : (s.setQueue q).snapshot = s.snapshot := rfl
@[simp] theorem State.setQueue_monitors (q : List QueueRec) : (s.setQueue q).monitors = s.monitors := rfl
@[simp] theorem State.setQueue_holdLine (q : List QueueRec) : (s.setQueue q).holdLine = s.holdLine := rfl
@[simp] theorem State.setQueue_planHold (q : List QueueRec) : (s.setQueue q).planHold = s.planHold := rfl
@[simp] theorem State.setQueue_swmark (q : List QueueRec) : (s.setQueue q).swmark = s.swmark := rfl
@[simp] theorem State.setQueue_blink (q : List QueueRec) : (s.setQueue q).blink = s.blink := rfl
@[simp] theorem State.setQueue_pins (q : List QueueRec) : (s.setQueue q).pins = s.pins := rfl
@[simp] theorem State.setQueue_entry (q : List QueueRec) (k : EntryNo) : (s.setQueue q).entry k = s.entry k := rfl
@[simp] theorem State.setQueue_active (q : List QueueRec) : (s.setQueue q).active = s.active := rfl
@[simp] theorem State.setQueue_holdOn (q : List QueueRec) : (s.setQueue q).holdOn = s.holdOn := rfl
@[simp] theorem State.setQueue_isSubject (q : List QueueRec) (k : EntryNo) :
    (s.setQueue q).isSubject k = s.isSubject k := rfl
@[simp] theorem State.setQueue_wedgedOn (q : List QueueRec) (u : UnitNo) :
    (s.setQueue q).wedgedOn u = s.wedgedOn u := rfl
@[simp] theorem State.setQueue_settled (q : List QueueRec) (u : UnitNo) : (s.setQueue q).settled u = s.settled u := rfl
@[simp] theorem State.setQueue_sweepReady (q : List QueueRec) : (s.setQueue q).sweepReady = s.sweepReady := rfl
@[simp] theorem State.setQueue_eligible (q : List QueueRec) (r : QueueRec) :
    (s.setQueue q).eligible r = s.eligible r := rfl
@[simp] theorem State.setQueue_benchReady (q : List QueueRec) : (s.setQueue q).benchReady = s.benchReady := rfl

/-! ### setEngine -/

@[simp] theorem State.setEngine_pending (c : Option Context) : (s.setEngine c).pending = s.pending := rfl
@[simp] theorem State.setEngine_now (c : Option Context) : (s.setEngine c).now = s.now := rfl
@[simp] theorem State.setEngine_seconds (c : Option Context) : (s.setEngine c).seconds = s.seconds := rfl
@[simp] theorem State.setEngine_interval (c : Option Context) : (s.setEngine c).interval = s.interval := rfl
@[simp] theorem State.setEngine_straps (c : Option Context) : (s.setEngine c).straps = s.straps := rfl
@[simp] theorem State.setEngine_cableReset (c : Option Context) : (s.setEngine c).cableReset = s.cableReset := rfl
@[simp] theorem State.setEngine_driveShows (c : Option Context) : (s.setEngine c).driveShows = s.driveShows := rfl
@[simp] theorem State.setEngine_indexOut (c : Option Context) : (s.setEngine c).indexOut = s.indexOut := rfl
@[simp] theorem State.setEngine_presented (c : Option Context) : (s.setEngine c).presented = s.presented := rfl
@[simp] theorem State.setEngine_slot (c : Option Context) : (s.setEngine c).slot = s.slot := rfl
@[simp] theorem State.setEngine_benchData (c : Option Context) : (s.setEngine c).benchData = s.benchData := rfl
@[simp] theorem State.setEngine_driveData (c : Option Context) : (s.setEngine c).driveData = s.driveData := rfl
@[simp] theorem State.setEngine_counters (c : Option Context) : (s.setEngine c).counters = s.counters := rfl
@[simp] theorem State.setEngine_geometry (c : Option Context) : (s.setEngine c).geometry = s.geometry := rfl
@[simp] theorem State.setEngine_entries (c : Option Context) : (s.setEngine c).entries = s.entries := rfl
@[simp] theorem State.setEngine_queue (c : Option Context) : (s.setEngine c).queue = s.queue := rfl
@[simp] theorem State.setEngine_engine (c : Option Context) : (s.setEngine c).engine = c := rfl
@[simp] theorem State.setEngine_log (c : Option Context) : (s.setEngine c).log = s.log := rfl
@[simp] theorem State.setEngine_nextSeq (c : Option Context) : (s.setEngine c).nextSeq = s.nextSeq := rfl
@[simp] theorem State.setEngine_curve (c : Option Context) : (s.setEngine c).curve = s.curve := rfl
@[simp] theorem State.setEngine_port (c : Option Context) : (s.setEngine c).port = s.port := rfl
@[simp] theorem State.setEngine_plan (c : Option Context) : (s.setEngine c).plan = s.plan := rfl
@[simp] theorem State.setEngine_planEvent (c : Option Context) : (s.setEngine c).planEvent = s.planEvent := rfl
@[simp] theorem State.setEngine_copy (c : Option Context) : (s.setEngine c).copy = s.copy := rfl
@[simp] theorem State.setEngine_snapNumber (c : Option Context) : (s.setEngine c).snapNumber = s.snapNumber := rfl
@[simp] theorem State.setEngine_snapshot (c : Option Context) : (s.setEngine c).snapshot = s.snapshot := rfl
@[simp] theorem State.setEngine_monitors (c : Option Context) : (s.setEngine c).monitors = s.monitors := rfl
@[simp] theorem State.setEngine_holdLine (c : Option Context) : (s.setEngine c).holdLine = s.holdLine := rfl
@[simp] theorem State.setEngine_planHold (c : Option Context) : (s.setEngine c).planHold = s.planHold := rfl
@[simp] theorem State.setEngine_swmark (c : Option Context) : (s.setEngine c).swmark = s.swmark := rfl
@[simp] theorem State.setEngine_blink (c : Option Context) : (s.setEngine c).blink = s.blink := rfl
@[simp] theorem State.setEngine_pins (c : Option Context) : (s.setEngine c).pins = s.pins := rfl
@[simp] theorem State.setEngine_entry (c : Option Context) (k : EntryNo) : (s.setEngine c).entry k = s.entry k := rfl
@[simp] theorem State.setEngine_active (c : Option Context) : (s.setEngine c).active = s.active := rfl
@[simp] theorem State.setEngine_holdOn (c : Option Context) : (s.setEngine c).holdOn = s.holdOn := rfl
@[simp] theorem State.setEngine_isQueued (c : Option Context) (k : EntryNo) :
    (s.setEngine c).isQueued k = s.isQueued k := rfl
@[simp] theorem State.setEngine_wedgedOn (c : Option Context) (u : UnitNo) :
    (s.setEngine c).wedgedOn u = s.wedgedOn u := rfl
@[simp] theorem State.setEngine_settled (c : Option Context) (u : UnitNo) :
    (s.setEngine c).settled u = s.settled u := rfl
@[simp] theorem State.setEngine_eligible (c : Option Context) (r : QueueRec) :
    (s.setEngine c).eligible r = s.eligible r := rfl
@[simp] theorem State.setEngine_benchReady (c : Option Context) : (s.setEngine c).benchReady = s.benchReady := rfl

/-! ### setEntries -/

@[simp] theorem State.setEntries_pending (v : Vector Entry 128) : (s.setEntries v).pending = s.pending := rfl
@[simp] theorem State.setEntries_now (v : Vector Entry 128) : (s.setEntries v).now = s.now := rfl
@[simp] theorem State.setEntries_seconds (v : Vector Entry 128) : (s.setEntries v).seconds = s.seconds := rfl
@[simp] theorem State.setEntries_interval (v : Vector Entry 128) : (s.setEntries v).interval = s.interval := rfl
@[simp] theorem State.setEntries_straps (v : Vector Entry 128) : (s.setEntries v).straps = s.straps := rfl
@[simp] theorem State.setEntries_cableReset (v : Vector Entry 128) : (s.setEntries v).cableReset = s.cableReset := rfl
@[simp] theorem State.setEntries_driveShows (v : Vector Entry 128) : (s.setEntries v).driveShows = s.driveShows := rfl
@[simp] theorem State.setEntries_indexOut (v : Vector Entry 128) : (s.setEntries v).indexOut = s.indexOut := rfl
@[simp] theorem State.setEntries_presented (v : Vector Entry 128) : (s.setEntries v).presented = s.presented := rfl
@[simp] theorem State.setEntries_slot (v : Vector Entry 128) : (s.setEntries v).slot = s.slot := rfl
@[simp] theorem State.setEntries_benchData (v : Vector Entry 128) : (s.setEntries v).benchData = s.benchData := rfl
@[simp] theorem State.setEntries_driveData (v : Vector Entry 128) : (s.setEntries v).driveData = s.driveData := rfl
@[simp] theorem State.setEntries_counters (v : Vector Entry 128) : (s.setEntries v).counters = s.counters := rfl
@[simp] theorem State.setEntries_geometry (v : Vector Entry 128) : (s.setEntries v).geometry = s.geometry := rfl
@[simp] theorem State.setEntries_entries (v : Vector Entry 128) : (s.setEntries v).entries = v := rfl
@[simp] theorem State.setEntries_queue (v : Vector Entry 128) : (s.setEntries v).queue = s.queue := rfl
@[simp] theorem State.setEntries_engine (v : Vector Entry 128) : (s.setEntries v).engine = s.engine := rfl
@[simp] theorem State.setEntries_log (v : Vector Entry 128) : (s.setEntries v).log = s.log := rfl
@[simp] theorem State.setEntries_nextSeq (v : Vector Entry 128) : (s.setEntries v).nextSeq = s.nextSeq := rfl
@[simp] theorem State.setEntries_curve (v : Vector Entry 128) : (s.setEntries v).curve = s.curve := rfl
@[simp] theorem State.setEntries_port (v : Vector Entry 128) : (s.setEntries v).port = s.port := rfl
@[simp] theorem State.setEntries_plan (v : Vector Entry 128) : (s.setEntries v).plan = s.plan := rfl
@[simp] theorem State.setEntries_planEvent (v : Vector Entry 128) : (s.setEntries v).planEvent = s.planEvent := rfl
@[simp] theorem State.setEntries_copy (v : Vector Entry 128) : (s.setEntries v).copy = s.copy := rfl
@[simp] theorem State.setEntries_snapNumber (v : Vector Entry 128) : (s.setEntries v).snapNumber = s.snapNumber := rfl
@[simp] theorem State.setEntries_snapshot (v : Vector Entry 128) : (s.setEntries v).snapshot = s.snapshot := rfl
@[simp] theorem State.setEntries_monitors (v : Vector Entry 128) : (s.setEntries v).monitors = s.monitors := rfl
@[simp] theorem State.setEntries_holdLine (v : Vector Entry 128) : (s.setEntries v).holdLine = s.holdLine := rfl
@[simp] theorem State.setEntries_planHold (v : Vector Entry 128) : (s.setEntries v).planHold = s.planHold := rfl
@[simp] theorem State.setEntries_swmark (v : Vector Entry 128) : (s.setEntries v).swmark = s.swmark := rfl
@[simp] theorem State.setEntries_blink (v : Vector Entry 128) : (s.setEntries v).blink = s.blink := rfl
@[simp] theorem State.setEntries_pins (v : Vector Entry 128) : (s.setEntries v).pins = s.pins := rfl
@[simp] theorem State.setEntries_active (v : Vector Entry 128) : (s.setEntries v).active = s.active := rfl
@[simp] theorem State.setEntries_holdOn (v : Vector Entry 128) : (s.setEntries v).holdOn = s.holdOn := rfl
@[simp] theorem State.setEntries_isSubject (v : Vector Entry 128) (k : EntryNo) :
    (s.setEntries v).isSubject k = s.isSubject k := rfl
@[simp] theorem State.setEntries_isQueued (v : Vector Entry 128) (k : EntryNo) :
    (s.setEntries v).isQueued k = s.isQueued k := rfl
@[simp] theorem State.setEntries_wedgedOn (v : Vector Entry 128) (u : UnitNo) :
    (s.setEntries v).wedgedOn u = s.wedgedOn u := rfl
@[simp] theorem State.setEntries_settled (v : Vector Entry 128) (u : UnitNo) :
    (s.setEntries v).settled u = s.settled u := rfl
@[simp] theorem State.setEntries_sweepReady (v : Vector Entry 128) : (s.setEntries v).sweepReady = s.sweepReady := rfl
@[simp] theorem State.setEntries_eligible (v : Vector Entry 128) (r : QueueRec) :
    (s.setEntries v).eligible r = s.eligible r := rfl
@[simp] theorem State.setEntries_benchReady (v : Vector Entry 128) : (s.setEntries v).benchReady = s.benchReady := rfl

/-! ### setSwmark -/

@[simp] theorem State.setSwmark_pending (w : Swmark) : (s.setSwmark w).pending = s.pending := rfl
@[simp] theorem State.setSwmark_now (w : Swmark) : (s.setSwmark w).now = s.now := rfl
@[simp] theorem State.setSwmark_seconds (w : Swmark) : (s.setSwmark w).seconds = s.seconds := rfl
@[simp] theorem State.setSwmark_interval (w : Swmark) : (s.setSwmark w).interval = s.interval := rfl
@[simp] theorem State.setSwmark_straps (w : Swmark) : (s.setSwmark w).straps = s.straps := rfl
@[simp] theorem State.setSwmark_cableReset (w : Swmark) : (s.setSwmark w).cableReset = s.cableReset := rfl
@[simp] theorem State.setSwmark_driveShows (w : Swmark) : (s.setSwmark w).driveShows = s.driveShows := rfl
@[simp] theorem State.setSwmark_indexOut (w : Swmark) : (s.setSwmark w).indexOut = s.indexOut := rfl
@[simp] theorem State.setSwmark_presented (w : Swmark) : (s.setSwmark w).presented = s.presented := rfl
@[simp] theorem State.setSwmark_slot (w : Swmark) : (s.setSwmark w).slot = s.slot := rfl
@[simp] theorem State.setSwmark_benchData (w : Swmark) : (s.setSwmark w).benchData = s.benchData := rfl
@[simp] theorem State.setSwmark_driveData (w : Swmark) : (s.setSwmark w).driveData = s.driveData := rfl
@[simp] theorem State.setSwmark_counters (w : Swmark) : (s.setSwmark w).counters = s.counters := rfl
@[simp] theorem State.setSwmark_geometry (w : Swmark) : (s.setSwmark w).geometry = s.geometry := rfl
@[simp] theorem State.setSwmark_entries (w : Swmark) : (s.setSwmark w).entries = s.entries := rfl
@[simp] theorem State.setSwmark_queue (w : Swmark) : (s.setSwmark w).queue = s.queue := rfl
@[simp] theorem State.setSwmark_engine (w : Swmark) : (s.setSwmark w).engine = s.engine := rfl
@[simp] theorem State.setSwmark_log (w : Swmark) : (s.setSwmark w).log = s.log := rfl
@[simp] theorem State.setSwmark_nextSeq (w : Swmark) : (s.setSwmark w).nextSeq = s.nextSeq := rfl
@[simp] theorem State.setSwmark_curve (w : Swmark) : (s.setSwmark w).curve = s.curve := rfl
@[simp] theorem State.setSwmark_port (w : Swmark) : (s.setSwmark w).port = s.port := rfl
@[simp] theorem State.setSwmark_plan (w : Swmark) : (s.setSwmark w).plan = s.plan := rfl
@[simp] theorem State.setSwmark_planEvent (w : Swmark) : (s.setSwmark w).planEvent = s.planEvent := rfl
@[simp] theorem State.setSwmark_copy (w : Swmark) : (s.setSwmark w).copy = s.copy := rfl
@[simp] theorem State.setSwmark_snapNumber (w : Swmark) : (s.setSwmark w).snapNumber = s.snapNumber := rfl
@[simp] theorem State.setSwmark_snapshot (w : Swmark) : (s.setSwmark w).snapshot = s.snapshot := rfl
@[simp] theorem State.setSwmark_monitors (w : Swmark) : (s.setSwmark w).monitors = s.monitors := rfl
@[simp] theorem State.setSwmark_holdLine (w : Swmark) : (s.setSwmark w).holdLine = s.holdLine := rfl
@[simp] theorem State.setSwmark_planHold (w : Swmark) : (s.setSwmark w).planHold = s.planHold := rfl
@[simp] theorem State.setSwmark_swmark (w : Swmark) : (s.setSwmark w).swmark = w := rfl
@[simp] theorem State.setSwmark_blink (w : Swmark) : (s.setSwmark w).blink = s.blink := rfl
@[simp] theorem State.setSwmark_pins (w : Swmark) : (s.setSwmark w).pins = s.pins := rfl
@[simp] theorem State.setSwmark_entry (w : Swmark) (k : EntryNo) : (s.setSwmark w).entry k = s.entry k := rfl
@[simp] theorem State.setSwmark_active (w : Swmark) : (s.setSwmark w).active = s.active := rfl
@[simp] theorem State.setSwmark_holdOn (w : Swmark) : (s.setSwmark w).holdOn = s.holdOn := rfl
@[simp] theorem State.setSwmark_isSubject (w : Swmark) (k : EntryNo) :
    (s.setSwmark w).isSubject k = s.isSubject k := rfl
@[simp] theorem State.setSwmark_isQueued (w : Swmark) (k : EntryNo) : (s.setSwmark w).isQueued k = s.isQueued k := rfl
@[simp] theorem State.setSwmark_wedgedOn (w : Swmark) (u : UnitNo) : (s.setSwmark w).wedgedOn u = s.wedgedOn u := rfl
@[simp] theorem State.setSwmark_settled (w : Swmark) (u : UnitNo) : (s.setSwmark w).settled u = s.settled u := rfl
@[simp] theorem State.setSwmark_sweepReady (w : Swmark) : (s.setSwmark w).sweepReady = s.sweepReady := rfl
@[simp] theorem State.setSwmark_eligible (w : Swmark) (r : QueueRec) : (s.setSwmark w).eligible r = s.eligible r := rfl
@[simp] theorem State.setSwmark_benchReady (w : Swmark) : (s.setSwmark w).benchReady = s.benchReady := rfl

/-! ### setBlink -/

@[simp] theorem State.setBlink_pending (b : Option Blink) : (s.setBlink b).pending = s.pending := rfl
@[simp] theorem State.setBlink_now (b : Option Blink) : (s.setBlink b).now = s.now := rfl
@[simp] theorem State.setBlink_seconds (b : Option Blink) : (s.setBlink b).seconds = s.seconds := rfl
@[simp] theorem State.setBlink_interval (b : Option Blink) : (s.setBlink b).interval = s.interval := rfl
@[simp] theorem State.setBlink_straps (b : Option Blink) : (s.setBlink b).straps = s.straps := rfl
@[simp] theorem State.setBlink_cableReset (b : Option Blink) : (s.setBlink b).cableReset = s.cableReset := rfl
@[simp] theorem State.setBlink_driveShows (b : Option Blink) : (s.setBlink b).driveShows = s.driveShows := rfl
@[simp] theorem State.setBlink_indexOut (b : Option Blink) : (s.setBlink b).indexOut = s.indexOut := rfl
@[simp] theorem State.setBlink_presented (b : Option Blink) : (s.setBlink b).presented = s.presented := rfl
@[simp] theorem State.setBlink_slot (b : Option Blink) : (s.setBlink b).slot = s.slot := rfl
@[simp] theorem State.setBlink_benchData (b : Option Blink) : (s.setBlink b).benchData = s.benchData := rfl
@[simp] theorem State.setBlink_driveData (b : Option Blink) : (s.setBlink b).driveData = s.driveData := rfl
@[simp] theorem State.setBlink_counters (b : Option Blink) : (s.setBlink b).counters = s.counters := rfl
@[simp] theorem State.setBlink_geometry (b : Option Blink) : (s.setBlink b).geometry = s.geometry := rfl
@[simp] theorem State.setBlink_entries (b : Option Blink) : (s.setBlink b).entries = s.entries := rfl
@[simp] theorem State.setBlink_queue (b : Option Blink) : (s.setBlink b).queue = s.queue := rfl
@[simp] theorem State.setBlink_engine (b : Option Blink) : (s.setBlink b).engine = s.engine := rfl
@[simp] theorem State.setBlink_log (b : Option Blink) : (s.setBlink b).log = s.log := rfl
@[simp] theorem State.setBlink_nextSeq (b : Option Blink) : (s.setBlink b).nextSeq = s.nextSeq := rfl
@[simp] theorem State.setBlink_curve (b : Option Blink) : (s.setBlink b).curve = s.curve := rfl
@[simp] theorem State.setBlink_port (b : Option Blink) : (s.setBlink b).port = s.port := rfl
@[simp] theorem State.setBlink_plan (b : Option Blink) : (s.setBlink b).plan = s.plan := rfl
@[simp] theorem State.setBlink_planEvent (b : Option Blink) : (s.setBlink b).planEvent = s.planEvent := rfl
@[simp] theorem State.setBlink_copy (b : Option Blink) : (s.setBlink b).copy = s.copy := rfl
@[simp] theorem State.setBlink_snapNumber (b : Option Blink) : (s.setBlink b).snapNumber = s.snapNumber := rfl
@[simp] theorem State.setBlink_snapshot (b : Option Blink) : (s.setBlink b).snapshot = s.snapshot := rfl
@[simp] theorem State.setBlink_monitors (b : Option Blink) : (s.setBlink b).monitors = s.monitors := rfl
@[simp] theorem State.setBlink_holdLine (b : Option Blink) : (s.setBlink b).holdLine = s.holdLine := rfl
@[simp] theorem State.setBlink_planHold (b : Option Blink) : (s.setBlink b).planHold = s.planHold := rfl
@[simp] theorem State.setBlink_swmark (b : Option Blink) : (s.setBlink b).swmark = s.swmark := rfl
@[simp] theorem State.setBlink_blink (b : Option Blink) : (s.setBlink b).blink = b := rfl
@[simp] theorem State.setBlink_pins (b : Option Blink) : (s.setBlink b).pins = s.pins := rfl
@[simp] theorem State.setBlink_entry (b : Option Blink) (k : EntryNo) : (s.setBlink b).entry k = s.entry k := rfl
@[simp] theorem State.setBlink_active (b : Option Blink) : (s.setBlink b).active = s.active := rfl
@[simp] theorem State.setBlink_holdOn (b : Option Blink) : (s.setBlink b).holdOn = s.holdOn := rfl
@[simp] theorem State.setBlink_isSubject (b : Option Blink) (k : EntryNo) :
    (s.setBlink b).isSubject k = s.isSubject k := rfl
@[simp] theorem State.setBlink_isQueued (b : Option Blink) (k : EntryNo) :
    (s.setBlink b).isQueued k = s.isQueued k := rfl
@[simp] theorem State.setBlink_wedgedOn (b : Option Blink) (u : UnitNo) :
    (s.setBlink b).wedgedOn u = s.wedgedOn u := rfl
@[simp] theorem State.setBlink_settled (b : Option Blink) (u : UnitNo) : (s.setBlink b).settled u = s.settled u := rfl
@[simp] theorem State.setBlink_sweepReady (b : Option Blink) : (s.setBlink b).sweepReady = s.sweepReady := rfl
@[simp] theorem State.setBlink_eligible (b : Option Blink) (r : QueueRec) :
    (s.setBlink b).eligible r = s.eligible r := rfl
@[simp] theorem State.setBlink_benchReady (b : Option Blink) : (s.setBlink b).benchReady = s.benchReady := rfl

/-! ### setMonitors -/

@[simp] theorem State.setMonitors_pending (m : PerUnit Monitor) : (s.setMonitors m).pending = s.pending := rfl
@[simp] theorem State.setMonitors_now (m : PerUnit Monitor) : (s.setMonitors m).now = s.now := rfl
@[simp] theorem State.setMonitors_seconds (m : PerUnit Monitor) : (s.setMonitors m).seconds = s.seconds := rfl
@[simp] theorem State.setMonitors_interval (m : PerUnit Monitor) : (s.setMonitors m).interval = s.interval := rfl
@[simp] theorem State.setMonitors_straps (m : PerUnit Monitor) : (s.setMonitors m).straps = s.straps := rfl
@[simp] theorem State.setMonitors_cableReset (m : PerUnit Monitor) : (s.setMonitors m).cableReset = s.cableReset := rfl
@[simp] theorem State.setMonitors_driveShows (m : PerUnit Monitor) : (s.setMonitors m).driveShows = s.driveShows := rfl
@[simp] theorem State.setMonitors_indexOut (m : PerUnit Monitor) : (s.setMonitors m).indexOut = s.indexOut := rfl
@[simp] theorem State.setMonitors_presented (m : PerUnit Monitor) : (s.setMonitors m).presented = s.presented := rfl
@[simp] theorem State.setMonitors_slot (m : PerUnit Monitor) : (s.setMonitors m).slot = s.slot := rfl
@[simp] theorem State.setMonitors_benchData (m : PerUnit Monitor) : (s.setMonitors m).benchData = s.benchData := rfl
@[simp] theorem State.setMonitors_driveData (m : PerUnit Monitor) : (s.setMonitors m).driveData = s.driveData := rfl
@[simp] theorem State.setMonitors_counters (m : PerUnit Monitor) : (s.setMonitors m).counters = s.counters := rfl
@[simp] theorem State.setMonitors_geometry (m : PerUnit Monitor) : (s.setMonitors m).geometry = s.geometry := rfl
@[simp] theorem State.setMonitors_entries (m : PerUnit Monitor) : (s.setMonitors m).entries = s.entries := rfl
@[simp] theorem State.setMonitors_queue (m : PerUnit Monitor) : (s.setMonitors m).queue = s.queue := rfl
@[simp] theorem State.setMonitors_engine (m : PerUnit Monitor) : (s.setMonitors m).engine = s.engine := rfl
@[simp] theorem State.setMonitors_log (m : PerUnit Monitor) : (s.setMonitors m).log = s.log := rfl
@[simp] theorem State.setMonitors_nextSeq (m : PerUnit Monitor) : (s.setMonitors m).nextSeq = s.nextSeq := rfl
@[simp] theorem State.setMonitors_curve (m : PerUnit Monitor) : (s.setMonitors m).curve = s.curve := rfl
@[simp] theorem State.setMonitors_port (m : PerUnit Monitor) : (s.setMonitors m).port = s.port := rfl
@[simp] theorem State.setMonitors_plan (m : PerUnit Monitor) : (s.setMonitors m).plan = s.plan := rfl
@[simp] theorem State.setMonitors_planEvent (m : PerUnit Monitor) : (s.setMonitors m).planEvent = s.planEvent := rfl
@[simp] theorem State.setMonitors_copy (m : PerUnit Monitor) : (s.setMonitors m).copy = s.copy := rfl
@[simp] theorem State.setMonitors_snapNumber (m : PerUnit Monitor) : (s.setMonitors m).snapNumber = s.snapNumber := rfl
@[simp] theorem State.setMonitors_snapshot (m : PerUnit Monitor) : (s.setMonitors m).snapshot = s.snapshot := rfl
@[simp] theorem State.setMonitors_monitors (m : PerUnit Monitor) : (s.setMonitors m).monitors = m := rfl
@[simp] theorem State.setMonitors_holdLine (m : PerUnit Monitor) : (s.setMonitors m).holdLine = s.holdLine := rfl
@[simp] theorem State.setMonitors_planHold (m : PerUnit Monitor) : (s.setMonitors m).planHold = s.planHold := rfl
@[simp] theorem State.setMonitors_swmark (m : PerUnit Monitor) : (s.setMonitors m).swmark = s.swmark := rfl
@[simp] theorem State.setMonitors_blink (m : PerUnit Monitor) : (s.setMonitors m).blink = s.blink := rfl
@[simp] theorem State.setMonitors_pins (m : PerUnit Monitor) : (s.setMonitors m).pins = s.pins := rfl
@[simp] theorem State.setMonitors_entry (m : PerUnit Monitor) (k : EntryNo) :
    (s.setMonitors m).entry k = s.entry k := rfl
@[simp] theorem State.setMonitors_active (m : PerUnit Monitor) : (s.setMonitors m).active = s.active := rfl
@[simp] theorem State.setMonitors_holdOn (m : PerUnit Monitor) : (s.setMonitors m).holdOn = s.holdOn := rfl
@[simp] theorem State.setMonitors_isSubject (m : PerUnit Monitor) (k : EntryNo) :
    (s.setMonitors m).isSubject k = s.isSubject k := rfl
@[simp] theorem State.setMonitors_isQueued (m : PerUnit Monitor) (k : EntryNo) :
    (s.setMonitors m).isQueued k = s.isQueued k := rfl
@[simp] theorem State.setMonitors_wedgedOn (m : PerUnit Monitor) (u : UnitNo) :
    (s.setMonitors m).wedgedOn u = s.wedgedOn u := rfl
@[simp] theorem State.setMonitors_benchReady (m : PerUnit Monitor) : (s.setMonitors m).benchReady = s.benchReady := rfl

/-! ### setEntry -/

@[simp] theorem State.setEntry_pending (i : EntryNo) (e : Entry) : (s.setEntry i e).pending = s.pending := rfl
@[simp] theorem State.setEntry_now (i : EntryNo) (e : Entry) : (s.setEntry i e).now = s.now := rfl
@[simp] theorem State.setEntry_seconds (i : EntryNo) (e : Entry) : (s.setEntry i e).seconds = s.seconds := rfl
@[simp] theorem State.setEntry_interval (i : EntryNo) (e : Entry) : (s.setEntry i e).interval = s.interval := rfl
@[simp] theorem State.setEntry_straps (i : EntryNo) (e : Entry) : (s.setEntry i e).straps = s.straps := rfl
@[simp] theorem State.setEntry_cableReset (i : EntryNo) (e : Entry) : (s.setEntry i e).cableReset = s.cableReset := rfl
@[simp] theorem State.setEntry_driveShows (i : EntryNo) (e : Entry) : (s.setEntry i e).driveShows = s.driveShows := rfl
@[simp] theorem State.setEntry_indexOut (i : EntryNo) (e : Entry) : (s.setEntry i e).indexOut = s.indexOut := rfl
@[simp] theorem State.setEntry_presented (i : EntryNo) (e : Entry) : (s.setEntry i e).presented = s.presented := rfl
@[simp] theorem State.setEntry_slot (i : EntryNo) (e : Entry) : (s.setEntry i e).slot = s.slot := rfl
@[simp] theorem State.setEntry_benchData (i : EntryNo) (e : Entry) : (s.setEntry i e).benchData = s.benchData := rfl
@[simp] theorem State.setEntry_driveData (i : EntryNo) (e : Entry) : (s.setEntry i e).driveData = s.driveData := rfl
@[simp] theorem State.setEntry_counters (i : EntryNo) (e : Entry) : (s.setEntry i e).counters = s.counters := rfl
@[simp] theorem State.setEntry_geometry (i : EntryNo) (e : Entry) : (s.setEntry i e).geometry = s.geometry := rfl
@[simp] theorem State.setEntry_entries (i : EntryNo) (e : Entry) :
    (s.setEntry i e).entries = s.entries.set i.val e i.isLt := rfl
@[simp] theorem State.setEntry_queue (i : EntryNo) (e : Entry) : (s.setEntry i e).queue = s.queue := rfl
@[simp] theorem State.setEntry_engine (i : EntryNo) (e : Entry) : (s.setEntry i e).engine = s.engine := rfl
@[simp] theorem State.setEntry_log (i : EntryNo) (e : Entry) : (s.setEntry i e).log = s.log := rfl
@[simp] theorem State.setEntry_nextSeq (i : EntryNo) (e : Entry) : (s.setEntry i e).nextSeq = s.nextSeq := rfl
@[simp] theorem State.setEntry_curve (i : EntryNo) (e : Entry) : (s.setEntry i e).curve = s.curve := rfl
@[simp] theorem State.setEntry_port (i : EntryNo) (e : Entry) : (s.setEntry i e).port = s.port := rfl
@[simp] theorem State.setEntry_plan (i : EntryNo) (e : Entry) : (s.setEntry i e).plan = s.plan := rfl
@[simp] theorem State.setEntry_planEvent (i : EntryNo) (e : Entry) : (s.setEntry i e).planEvent = s.planEvent := rfl
@[simp] theorem State.setEntry_copy (i : EntryNo) (e : Entry) : (s.setEntry i e).copy = s.copy := rfl
@[simp] theorem State.setEntry_snapNumber (i : EntryNo) (e : Entry) : (s.setEntry i e).snapNumber = s.snapNumber := rfl
@[simp] theorem State.setEntry_snapshot (i : EntryNo) (e : Entry) : (s.setEntry i e).snapshot = s.snapshot := rfl
@[simp] theorem State.setEntry_monitors (i : EntryNo) (e : Entry) : (s.setEntry i e).monitors = s.monitors := rfl
@[simp] theorem State.setEntry_holdLine (i : EntryNo) (e : Entry) : (s.setEntry i e).holdLine = s.holdLine := rfl
@[simp] theorem State.setEntry_planHold (i : EntryNo) (e : Entry) : (s.setEntry i e).planHold = s.planHold := rfl
@[simp] theorem State.setEntry_swmark (i : EntryNo) (e : Entry) : (s.setEntry i e).swmark = s.swmark := rfl
@[simp] theorem State.setEntry_blink (i : EntryNo) (e : Entry) : (s.setEntry i e).blink = s.blink := rfl
@[simp] theorem State.setEntry_pins (i : EntryNo) (e : Entry) : (s.setEntry i e).pins = s.pins := rfl
@[simp] theorem State.setEntry_active (i : EntryNo) (e : Entry) : (s.setEntry i e).active = s.active := rfl
@[simp] theorem State.setEntry_holdOn (i : EntryNo) (e : Entry) : (s.setEntry i e).holdOn = s.holdOn := rfl
@[simp] theorem State.setEntry_isSubject (i : EntryNo) (e : Entry) (k : EntryNo) :
    (s.setEntry i e).isSubject k = s.isSubject k := rfl
@[simp] theorem State.setEntry_isQueued (i : EntryNo) (e : Entry) (k : EntryNo) :
    (s.setEntry i e).isQueued k = s.isQueued k := rfl
@[simp] theorem State.setEntry_wedgedOn (i : EntryNo) (e : Entry) (u : UnitNo) :
    (s.setEntry i e).wedgedOn u = s.wedgedOn u := rfl
@[simp] theorem State.setEntry_settled (i : EntryNo) (e : Entry) (u : UnitNo) :
    (s.setEntry i e).settled u = s.settled u := rfl
@[simp] theorem State.setEntry_sweepReady (i : EntryNo) (e : Entry) : (s.setEntry i e).sweepReady = s.sweepReady := rfl
@[simp] theorem State.setEntry_eligible (i : EntryNo) (e : Entry) (r : QueueRec) :
    (s.setEntry i e).eligible r = s.eligible r := rfl
@[simp] theorem State.setEntry_benchReady (i : EntryNo) (e : Entry) : (s.setEntry i e).benchReady = s.benchReady := rfl

/-! ### mapEntries -/

@[simp] theorem State.mapEntries_pending (f : EntryNo → Entry → Entry) :
    (s.mapEntries f).pending = s.pending := s.setEntries_pending _
@[simp] theorem State.mapEntries_now (f : EntryNo → Entry → Entry) :
    (s.mapEntries f).now = s.now := s.setEntries_now _
@[simp] theorem State.mapEntries_seconds (f : EntryNo → Entry → Entry) :
    (s.mapEntries f).seconds = s.seconds := s.setEntries_seconds _
@[simp] theorem State.mapEntries_interval (f : EntryNo → Entry → Entry) :
    (s.mapEntries f).interval = s.interval := s.setEntries_interval _
@[simp] theorem State.mapEntries_straps (f : EntryNo → Entry → Entry) :
    (s.mapEntries f).straps = s.straps := s.setEntries_straps _
@[simp] theorem State.mapEntries_cableReset (f : EntryNo → Entry → Entry) :
    (s.mapEntries f).cableReset = s.cableReset := s.setEntries_cableReset _
@[simp] theorem State.mapEntries_driveShows (f : EntryNo → Entry → Entry) :
    (s.mapEntries f).driveShows = s.driveShows := s.setEntries_driveShows _
@[simp] theorem State.mapEntries_indexOut (f : EntryNo → Entry → Entry) :
    (s.mapEntries f).indexOut = s.indexOut := s.setEntries_indexOut _
@[simp] theorem State.mapEntries_presented (f : EntryNo → Entry → Entry) :
    (s.mapEntries f).presented = s.presented := s.setEntries_presented _
@[simp] theorem State.mapEntries_slot (f : EntryNo → Entry → Entry) :
    (s.mapEntries f).slot = s.slot := s.setEntries_slot _
@[simp] theorem State.mapEntries_benchData (f : EntryNo → Entry → Entry) :
    (s.mapEntries f).benchData = s.benchData := s.setEntries_benchData _
@[simp] theorem State.mapEntries_driveData (f : EntryNo → Entry → Entry) :
    (s.mapEntries f).driveData = s.driveData := s.setEntries_driveData _
@[simp] theorem State.mapEntries_counters (f : EntryNo → Entry → Entry) :
    (s.mapEntries f).counters = s.counters := s.setEntries_counters _
@[simp] theorem State.mapEntries_geometry (f : EntryNo → Entry → Entry) :
    (s.mapEntries f).geometry = s.geometry := s.setEntries_geometry _
@[simp] theorem State.mapEntries_entries (f : EntryNo → Entry → Entry) :
    (s.mapEntries f).entries = Vector.ofFn fun i => f i s.entries[i] :=
  State.setEntries_entries s _
@[simp] theorem State.mapEntries_queue (f : EntryNo → Entry → Entry) :
    (s.mapEntries f).queue = s.queue := s.setEntries_queue _
@[simp] theorem State.mapEntries_engine (f : EntryNo → Entry → Entry) :
    (s.mapEntries f).engine = s.engine := s.setEntries_engine _
@[simp] theorem State.mapEntries_log (f : EntryNo → Entry → Entry) :
    (s.mapEntries f).log = s.log := s.setEntries_log _
@[simp] theorem State.mapEntries_nextSeq (f : EntryNo → Entry → Entry) :
    (s.mapEntries f).nextSeq = s.nextSeq := s.setEntries_nextSeq _
@[simp] theorem State.mapEntries_curve (f : EntryNo → Entry → Entry) :
    (s.mapEntries f).curve = s.curve := s.setEntries_curve _
@[simp] theorem State.mapEntries_port (f : EntryNo → Entry → Entry) :
    (s.mapEntries f).port = s.port := s.setEntries_port _
@[simp] theorem State.mapEntries_plan (f : EntryNo → Entry → Entry) :
    (s.mapEntries f).plan = s.plan := s.setEntries_plan _
@[simp] theorem State.mapEntries_planEvent (f : EntryNo → Entry → Entry) :
    (s.mapEntries f).planEvent = s.planEvent := s.setEntries_planEvent _
@[simp] theorem State.mapEntries_copy (f : EntryNo → Entry → Entry) :
    (s.mapEntries f).copy = s.copy := s.setEntries_copy _
@[simp] theorem State.mapEntries_snapNumber (f : EntryNo → Entry → Entry) :
    (s.mapEntries f).snapNumber = s.snapNumber := s.setEntries_snapNumber _
@[simp] theorem State.mapEntries_snapshot (f : EntryNo → Entry → Entry) :
    (s.mapEntries f).snapshot = s.snapshot := s.setEntries_snapshot _
@[simp] theorem State.mapEntries_monitors (f : EntryNo → Entry → Entry) :
    (s.mapEntries f).monitors = s.monitors := s.setEntries_monitors _
@[simp] theorem State.mapEntries_holdLine (f : EntryNo → Entry → Entry) :
    (s.mapEntries f).holdLine = s.holdLine := s.setEntries_holdLine _
@[simp] theorem State.mapEntries_planHold (f : EntryNo → Entry → Entry) :
    (s.mapEntries f).planHold = s.planHold := s.setEntries_planHold _
@[simp] theorem State.mapEntries_swmark (f : EntryNo → Entry → Entry) :
    (s.mapEntries f).swmark = s.swmark := s.setEntries_swmark _
@[simp] theorem State.mapEntries_blink (f : EntryNo → Entry → Entry) :
    (s.mapEntries f).blink = s.blink := s.setEntries_blink _
@[simp] theorem State.mapEntries_pins (f : EntryNo → Entry → Entry) :
    (s.mapEntries f).pins = s.pins := s.setEntries_pins _
@[simp] theorem State.mapEntries_active (f : EntryNo → Entry → Entry) :
    (s.mapEntries f).active = s.active := s.setEntries_active _
@[simp] theorem State.mapEntries_holdOn (f : EntryNo → Entry → Entry) :
    (s.mapEntries f).holdOn = s.holdOn := s.setEntries_holdOn _
@[simp] theorem State.mapEntries_isSubject (f : EntryNo → Entry → Entry) (k : EntryNo) :
    (s.mapEntries f).isSubject k = s.isSubject k := s.setEntries_isSubject _ k
@[simp] theorem State.mapEntries_isQueued (f : EntryNo → Entry → Entry) (k : EntryNo) :
    (s.mapEntries f).isQueued k = s.isQueued k := s.setEntries_isQueued _ k
@[simp] theorem State.mapEntries_wedgedOn (f : EntryNo → Entry → Entry) (u : UnitNo) :
    (s.mapEntries f).wedgedOn u = s.wedgedOn u := s.setEntries_wedgedOn _ u
@[simp] theorem State.mapEntries_settled (f : EntryNo → Entry → Entry) (u : UnitNo) :
    (s.mapEntries f).settled u = s.settled u := s.setEntries_settled _ u
@[simp] theorem State.mapEntries_sweepReady (f : EntryNo → Entry → Entry) :
    (s.mapEntries f).sweepReady = s.sweepReady := s.setEntries_sweepReady _
@[simp] theorem State.mapEntries_eligible (f : EntryNo → Entry → Entry) (r : QueueRec) :
    (s.mapEntries f).eligible r = s.eligible r := s.setEntries_eligible _ r
@[simp] theorem State.mapEntries_benchReady (f : EntryNo → Entry → Entry) :
    (s.mapEntries f).benchReady = s.benchReady := s.setEntries_benchReady _

/-! ### drivePins -/

/-- A reading that does not look at the pins is the same after they are driven. -/
theorem State.drivePins_reading {α : Type} (f : State → α) (h : ∀ p, f { s with pins := p } = f s) :
    f s.drivePins = f s := by
  rw [State.drivePins]; exact h _

@[simp] theorem State.drivePins_pending : s.drivePins.pending = s.pending := by rw [State.drivePins]
@[simp] theorem State.drivePins_now : s.drivePins.now = s.now := by rw [State.drivePins]
@[simp] theorem State.drivePins_seconds : s.drivePins.seconds = s.seconds := by rw [State.drivePins]
@[simp] theorem State.drivePins_interval : s.drivePins.interval = s.interval := by rw [State.drivePins]
@[simp] theorem State.drivePins_straps : s.drivePins.straps = s.straps := by rw [State.drivePins]
@[simp] theorem State.drivePins_cableReset : s.drivePins.cableReset = s.cableReset := by rw [State.drivePins]
@[simp] theorem State.drivePins_driveShows : s.drivePins.driveShows = s.driveShows := by rw [State.drivePins]
@[simp] theorem State.drivePins_indexOut : s.drivePins.indexOut = s.indexOut := by rw [State.drivePins]
@[simp] theorem State.drivePins_presented : s.drivePins.presented = s.presented := by rw [State.drivePins]
@[simp] theorem State.drivePins_slot : s.drivePins.slot = s.slot := by rw [State.drivePins]
@[simp] theorem State.drivePins_benchData : s.drivePins.benchData = s.benchData := by rw [State.drivePins]
@[simp] theorem State.drivePins_driveData : s.drivePins.driveData = s.driveData := by rw [State.drivePins]
@[simp] theorem State.drivePins_counters : s.drivePins.counters = s.counters := by rw [State.drivePins]
@[simp] theorem State.drivePins_geometry : s.drivePins.geometry = s.geometry := by rw [State.drivePins]
@[simp] theorem State.drivePins_entries : s.drivePins.entries = s.entries := by rw [State.drivePins]
@[simp] theorem State.drivePins_queue : s.drivePins.queue = s.queue := by rw [State.drivePins]
@[simp] theorem State.drivePins_engine : s.drivePins.engine = s.engine := by rw [State.drivePins]
@[simp] theorem State.drivePins_log : s.drivePins.log = s.log := by rw [State.drivePins]
@[simp] theorem State.drivePins_nextSeq : s.drivePins.nextSeq = s.nextSeq := by rw [State.drivePins]
@[simp] theorem State.drivePins_curve : s.drivePins.curve = s.curve := by rw [State.drivePins]
@[simp] theorem State.drivePins_port : s.drivePins.port = s.port := by rw [State.drivePins]
@[simp] theorem State.drivePins_plan : s.drivePins.plan = s.plan := by rw [State.drivePins]
@[simp] theorem State.drivePins_planEvent : s.drivePins.planEvent = s.planEvent := by rw [State.drivePins]
@[simp] theorem State.drivePins_copy : s.drivePins.copy = s.copy := by rw [State.drivePins]
@[simp] theorem State.drivePins_snapNumber : s.drivePins.snapNumber = s.snapNumber := by rw [State.drivePins]
@[simp] theorem State.drivePins_snapshot : s.drivePins.snapshot = s.snapshot := by rw [State.drivePins]
@[simp] theorem State.drivePins_monitors : s.drivePins.monitors = s.monitors := by rw [State.drivePins]
@[simp] theorem State.drivePins_holdLine : s.drivePins.holdLine = s.holdLine := by rw [State.drivePins]
@[simp] theorem State.drivePins_planHold : s.drivePins.planHold = s.planHold := by rw [State.drivePins]
@[simp] theorem State.drivePins_swmark : s.drivePins.swmark = s.swmark := by rw [State.drivePins]
@[simp] theorem State.drivePins_blink : s.drivePins.blink = s.blink := by rw [State.drivePins]
@[simp] theorem State.drivePins_pins : s.drivePins.pins = s.pinsRule := by rw [State.drivePins]
@[simp] theorem State.drivePins_entry (k : EntryNo) : s.drivePins.entry k = s.entry k :=
  s.drivePins_reading (fun s => s.entry k) fun _ => rfl
@[simp] theorem State.drivePins_active : s.drivePins.active = s.active :=
  s.drivePins_reading (fun s => s.active) fun _ => rfl
@[simp] theorem State.drivePins_holdOn : s.drivePins.holdOn = s.holdOn :=
  s.drivePins_reading (fun s => s.holdOn) fun _ => rfl
@[simp] theorem State.drivePins_isSubject (k : EntryNo) : s.drivePins.isSubject k = s.isSubject k :=
  s.drivePins_reading (fun s => s.isSubject k) fun _ => rfl
@[simp] theorem State.drivePins_isQueued (k : EntryNo) : s.drivePins.isQueued k = s.isQueued k :=
  s.drivePins_reading (fun s => s.isQueued k) fun _ => rfl
@[simp] theorem State.drivePins_wedgedOn (u : UnitNo) : s.drivePins.wedgedOn u = s.wedgedOn u :=
  s.drivePins_reading (fun s => s.wedgedOn u) fun _ => rfl
@[simp] theorem State.drivePins_settled (u : UnitNo) : s.drivePins.settled u = s.settled u :=
  s.drivePins_reading (fun s => s.settled u) fun _ => rfl
@[simp] theorem State.drivePins_sweepReady : s.drivePins.sweepReady = s.sweepReady :=
  s.drivePins_reading (fun s => s.sweepReady) fun _ => rfl
@[simp] theorem State.drivePins_eligible (r : QueueRec) : s.drivePins.eligible r = s.eligible r :=
  s.drivePins_reading (fun s => s.eligible r) fun _ => rfl
@[simp] theorem State.drivePins_benchReady : s.drivePins.benchReady = s.benchReady :=
  s.drivePins_reading (fun s => s.benchReady) fun _ => rfl

end Sys2Proof.Machine
end

