-- ==== Sys2Proof/Laws/Readings.lean ====
section
/-! SUPPORT. The small lemmas of what a state holds per unit and per entry: reading back a written value, and the index of
an entry (R1). -/

namespace Sys2Proof

@[simp] theorem PerUnit.get_set_self {α : Type} (p : PerUnit α) (u : UnitNo) (a : α) : (p.set u a).get u = a := by
  unfold PerUnit.get PerUnit.set; split <;> rfl

theorem PerUnit.get_set_ne {α : Type} (p : PerUnit α) {u v : UnitNo} (a : α) (h : v ≠ u) :
    (p.set u a).get v = p.get v := by
  unfold PerUnit.get PerUnit.set
  fin_cases u <;> fin_cases v <;> simp_all

theorem PerUnit.get_set {α : Type} (p : PerUnit α) (u v : UnitNo) (a : α) :
    (p.set u a).get v = if v = u then a else p.get v := by
  split
  · next h => rw [h, PerUnit.get_set_self]
  · next h => exact p.get_set_ne a h

@[simp] theorem PerUnit.set_get_self {α : Type} (p : PerUnit α) (u : UnitNo) : p.set u (p.get u) = p := by
  unfold PerUnit.get PerUnit.set; split <;> rfl

@[simp] theorem PerUnit.set_set {α : Type} (p : PerUnit α) (u : UnitNo) (a b : α) : (p.set u a).set u b = p.set u b := by
  unfold PerUnit.set; split <;> rfl

namespace Machine

@[simp] theorem unitOf_entryNo (u : UnitNo) (h : HeadNo) (z : ZoneNo) : unitOf (entryNo u h z) = u := by
  ext; simp only [unitOf, entryNo]; omega

@[simp] theorem headOf_entryNo (u : UnitNo) (h : HeadNo) (z : ZoneNo) : headOf (entryNo u h z) = h := by
  ext; simp only [headOf, entryNo]; omega

@[simp] theorem zoneOf_entryNo (u : UnitNo) (h : HeadNo) (z : ZoneNo) : zoneOf (entryNo u h z) = z := by
  ext; simp only [zoneOf, entryNo]; omega

theorem mem_allEntries (i : EntryNo) : i ∈ allEntries := List.mem_finRange i

variable (s : State)

theorem State.entry_setEntry (i k : EntryNo) (e : Entry) : (s.setEntry i e).entry k = if k = i then e else s.entry k := by
  simp only [State.entry, State.setEntry_entries, Fin.getElem_fin, Vector.getElem_set, Fin.ext_iff, eq_comm]

@[simp] theorem State.entry_setEntry_self (i : EntryNo) (e : Entry) : (s.setEntry i e).entry i = e := by
  simp [State.entry_setEntry]

theorem State.entry_setEntry_ne {i k : EntryNo} (e : Entry) (h : k ≠ i) : (s.setEntry i e).entry k = s.entry k := by
  simp [State.entry_setEntry, h]

@[simp] theorem State.entry_mapEntries (f : EntryNo → Entry → Entry) (i : EntryNo) :
    (s.mapEntries f).entry i = f i (s.entry i) := by
  simp [State.entry]

/-- Two maps with the same entries are the same map. -/
theorem entries_ext {v w : Vector Entry 128} (h : ∀ i : EntryNo, v[i] = w[i]) : v = w :=
  Vector.ext fun i hi => h ⟨i, hi⟩

/-! ### What the drive side shows -/

@[simp] theorem State.advance_opensTask (t : Nat) (u : UnitNo) : (s.advance t).opensTask u = s.opensTask u := rfl
@[simp] theorem State.advance_driveAnswers (t : Nat) : (s.advance t).driveAnswers = s.driveAnswers := rfl
@[simp] theorem State.advance_answeredTask (t : Nat) : (s.advance t).answeredTask = s.answeredTask := rfl
@[simp] theorem State.setSlot_opensTask (b : Option BenchTask) (u : UnitNo) :
    (s.setSlot b).opensTask u = s.opensTask u := rfl
@[simp] theorem State.setSlot_driveAnswers (b : Option BenchTask) : (s.setSlot b).driveAnswers = s.driveAnswers := rfl
@[simp] theorem State.setPort_opensTask (p : Port) (u : UnitNo) : (s.setPort p).opensTask u = s.opensTask u := rfl
@[simp] theorem State.setEngine_opensTask (c : Option Context) (u : UnitNo) :
    (s.setEngine c).opensTask u = s.opensTask u := rfl
@[simp] theorem State.setEngine_driveAnswers (c : Option Context) : (s.setEngine c).driveAnswers = s.driveAnswers := rfl
@[simp] theorem State.setEntry_opensTask (i : EntryNo) (e : Entry) (u : UnitNo) :
    (s.setEntry i e).opensTask u = s.opensTask u := rfl
@[simp] theorem State.setEntry_driveAnswers (i : EntryNo) (e : Entry) :
    (s.setEntry i e).driveAnswers = s.driveAnswers := rfl
@[simp] theorem State.drivePins_opensTask (u : UnitNo) : s.drivePins.opensTask u = s.opensTask u := by
  simp [State.opensTask]
@[simp] theorem State.drivePins_driveAnswers : s.drivePins.driveAnswers = s.driveAnswers := by
  simp [State.driveAnswers]

end Machine

end Sys2Proof
end

