-- ==== Sys2Proof/Laws/Frames.lean ====
section
/-! SUPPORT. For each shared operation, the fields of State it can change: one lemma each, as the state it started from
with those fields replaced. Everything else is unchanged. -/

namespace Sys2Proof.Machine

variable (s : State)

/-- Two states that differ in the map and the queue only. -/
def SameButQueue (s t : State) : Prop := ∃ q v, t = { s with queue := q, entries := v }

/-- Two states that differ in the map, the queue and the engine with its lines only. -/
def SameButLook (s t : State) : Prop :=
  ∃ q v c w b, t = { s with queue := q, entries := v, engine := c, swmark := w, blink := b }

/-- Two states that differ only in what the ending of a sweep and a look can change. -/
def SameButEnding (s t : State) : Prop :=
  ∃ q v c w b n l k u p, t = { s with
    queue := q, entries := v, engine := c, swmark := w, blink := b, counters := n, log := l, nextSeq := k, curve := u,
    port := p }

theorem SameButQueue.refl : SameButQueue s s := ⟨_, _, rfl⟩

theorem SameButQueue.trans {s t r : State} (h : SameButQueue s t) (k : SameButQueue t r) : SameButQueue s r := by
  obtain ⟨_, _, rfl⟩ := h; obtain ⟨_, _, rfl⟩ := k; exact ⟨_, _, rfl⟩

theorem SameButLook.refl : SameButLook s s := ⟨_, _, _, _, _, rfl⟩

theorem SameButLook.trans {s t r : State} (h : SameButLook s t) (k : SameButLook t r) : SameButLook s r := by
  obtain ⟨_, _, _, _, _, rfl⟩ := h; obtain ⟨_, _, _, _, _, rfl⟩ := k; exact ⟨_, _, _, _, _, rfl⟩

theorem SameButEnding.refl : SameButEnding s s := ⟨_, _, _, _, _, _, _, _, _, _, rfl⟩

theorem SameButEnding.trans {s t r : State} (h : SameButEnding s t) (k : SameButEnding t r) : SameButEnding s r := by
  obtain ⟨_, _, _, _, _, _, _, _, _, _, rfl⟩ := h; obtain ⟨_, _, _, _, _, _, _, _, _, _, rfl⟩ := k
  exact ⟨_, _, _, _, _, _, _, _, _, _, rfl⟩

theorem SameButQueue.toLook {s t : State} (h : SameButQueue s t) : SameButLook s t := by
  obtain ⟨_, _, rfl⟩ := h; exact ⟨_, _, _, _, _, rfl⟩

theorem SameButLook.toEnding {s t : State} (h : SameButLook s t) : SameButEnding s t := by
  obtain ⟨_, _, _, _, _, rfl⟩ := h; exact ⟨_, _, _, _, _, _, _, _, _, _, rfl⟩

/-- A fold over entries keeps what each of its steps keeps. -/
theorem foldl_keeps {α : Type} {R : State → State → Prop} (refl : ∀ s, R s s)
    (trans : ∀ {s t r}, R s t → R t r → R s r) (f : State → α → State) (step : ∀ s a, R s (f s a)) (l : List α)
    (s : State) : R s (l.foldl f s) := by
  induction l generalizing s with
  | nil => exact refl s
  | cons a l ih => exact trans (step s a) (ih _)

theorem setEntry_frame (i : EntryNo) (e : Entry) : SameButQueue s (s.setEntry i e) := ⟨_, _, rfl⟩

theorem setQueue_frame (q : List QueueRec) : SameButQueue s (s.setQueue q) := ⟨_, _, rfl⟩

theorem mapEntries_frame (f : EntryNo → Entry → Entry) : SameButQueue s (s.mapEntries f) :=
  ⟨s.queue, (s.mapEntries f).entries, rfl⟩

theorem request_frame (i : EntryNo) (c : Cause) : SameButQueue s (s.request i c) := by
  unfold State.request
  split_ifs
  iterate 3 exact .refl s
  · exact (setQueue_frame s _).trans (setEntry_frame _ _ _)
  · exact setEntry_frame _ _ _

theorem displaceTail_frame : SameButQueue s s.displaceTail := by
  unfold State.displaceTail
  split
  · exact .refl s
  · split
    · exact (setQueue_frame s _).trans (setEntry_frame _ _ _)
    · exact .refl s

theorem requestFront_frame (i : EntryNo) : SameButQueue s (s.requestFront i) :=
  (displaceTail_frame s).trans (setQueue_frame _ _)

theorem reofferOne_frame (i : EntryNo) : SameButQueue s (s.reofferOne i) := by
  unfold State.reofferOne
  split
  · split
    · exact (setQueue_frame s _).trans (setEntry_frame _ _ _)
    · exact .refl s
  · exact .refl s

theorem reoffer_frame : SameButQueue s s.reoffer :=
  foldl_keeps SameButQueue.refl SameButQueue.trans _ reofferOne_frame _ s

theorem takeRecord_frame (b : Bool) (r : QueueRec) : SameButLook s (s.takeRecord b r) := by
  unfold State.takeRecord
  exact SameButLook.trans ⟨_, _, _, _, _, rfl⟩ ((setEntry_frame _ _ _).trans (reoffer_frame _)).toLook

theorem look_frame (b : Bool) : SameButLook s (s.look b) := by
  unfold State.look
  split
  · split
    · exact takeRecord_frame s b _
    · exact .refl s
  · exact .refl s

theorem settleEnding_frame (c : Context) (g : Ending) : SameButEnding s (s.settleEnding c g) :=
  ⟨s.queue, _, _, _, _, _, _, _, _, _, rfl⟩

theorem requeueSubject_frame (i : EntryNo) (c : Option Cause) : SameButQueue s (s.requeueSubject i c) := by
  unfold State.requeueSubject
  split
  · exact .refl s
  · exact requestFront_frame s i
  · exact request_frame s i _

theorem endSweepNoLook_frame (g : Ending) : SameButEnding s (s.endSweepNoLook g) := by
  unfold State.endSweepNoLook
  split
  · exact .refl s
  · exact (settleEnding_frame s _ g).trans (requeueSubject_frame _ _ _).toLook.toEnding

theorem endSweep_frame (g : Ending) : SameButEnding s (s.endSweep g) := by
  unfold State.endSweep
  split
  · exact .refl s
  · exact (endSweepNoLook_frame s g).trans (look_frame _ _).toEnding

theorem endSweepOn_frame (u : UnitNo) (g : Ending) : SameButEnding s (s.endSweepOn u g) := by
  unfold State.endSweepOn
  split
  · exact .refl s
  · split
    · exact endSweep_frame s g
    · exact .refl s

theorem driftEvent_frame (i : EntryNo) (op : Op) (c : Completion) : SameButLook s (s.driftEvent i op c) := by
  unfold State.driftEvent
  split
  · dsimp only
    split
    · exact ((setEntry_frame s _ _).trans (request_frame _ _ _)).toLook.trans (look_frame _ _)
    · exact (setEntry_frame s _ _).toLook
  · exact .refl s

theorem goStale_frame (cause : Cause) (i : EntryNo) : SameButQueue s (State.goStale cause s i) := by
  unfold State.goStale
  split
  · exact (setEntry_frame s _ _).trans (request_frame _ _ _)
  · exact .refl s

theorem staleness_frame (u : UnitNo) : SameButQueue s (s.staleness u) :=
  foldl_keeps SameButQueue.refl SameButQueue.trans _ (goStale_frame · .spinUp) _ s

theorem testAge_frame (i : EntryNo) : SameButQueue s (s.testAge i) := by
  unfold State.testAge
  split
  · exact goStale_frame s _ i
  · exact .refl s

theorem patternLoss_frame (i : EntryNo) : SameButEnding s (s.patternLoss i) := by
  unfold State.patternLoss
  dsimp only
  split
  · exact (setEntry_frame s _ _).toLook.toEnding.trans (endSweep_frame _ _)
  · exact (setEntry_frame s _ _).toLook.toEnding

/-- Two states that differ only in what a spindle event can change. -/
def SameButSpindle (s t : State) : Prop := ∃ m, SameButEnding { s with monitors := m } t

theorem pulse_frame (u : UnitNo) : SameButSpindle s (s.pulse u) := by
  unfold State.pulse
  dsimp only
  split
  · split
    · exact ⟨_, .refl _⟩
    · exact ⟨_, endSweepOn_frame _ _ _⟩
    · split
      · obtain ⟨q, v, h⟩ := staleness_frame (s.setMonitors (s.monitors.set u
          ((s.monitors.get u).pulse s.now s.plan.settleCount).1)) u
        rw [h]
        exact ⟨_, SameButEnding.trans ⟨q, v, _, _, _, _, _, _, _, _, rfl⟩ (look_frame _ _).toEnding⟩
      · exact ⟨_, (look_frame _ _).toEnding⟩
  · exact ⟨s.monitors, .refl s⟩

theorem stopTimer_frame (u : UnitNo) : SameButSpindle s (s.stopTimer u) := by
  unfold State.stopTimer
  dsimp only
  split
  · exact ⟨_, endSweepOn_frame _ _ _⟩
  · exact ⟨s.monitors, .refl s⟩

theorem spinDownIssued_frame (u : UnitNo) : SameButSpindle s (s.spinDownIssued u) := ⟨_, endSweepOn_frame _ _ _⟩

end Sys2Proof.Machine
end

