-- ==== Sys2Proof/Laws/Ending.lean ====
section
/-! SUPPORT. When the work that ends every command has nothing to do: no presentation is taken, no grant is made; and the
grant that is made when the bench slot or the engine asks. -/

namespace Sys2Proof.Machine

variable (s : State)

theorem resting_iff : s.resting = true ↔ s.presented = [] ∧ s.benchAsks = none ∧ s.engineQuiet = true := by
  simp [State.resting, List.isEmpty_iff, and_assoc]

theorem takePresented_of_none (h : s.presented = []) : s.takePresented = s := by simp [State.takePresented, h]

theorem takePresented_of_notReady (h : s.benchReady = false) : s.takePresented = s := by
  unfold State.takePresented; split <;> simp [h]

theorem takePresented_of_occupied {b : BenchTask} (h : s.slot = some b) : s.takePresented = s :=
  takePresented_of_notReady s (by simp [State.benchReady, h])

theorem takePresented_of_ready {t : Task} {rest : List Task} (h : s.presented = t :: rest) (hr : s.benchReady = true) :
    s.takePresented = ({ s with presented := rest } : State).takeTask t := by
  simp [State.takePresented, h, hr]

theorem arbitrate_of_held (h : s.port.state.isFree = false) : s.arbitrate = s := by
  unfold State.arbitrate
  revert h; cases s.port.state <;> simp [PortState.isFree]

theorem engineQuiet_of_held (h : s.port.state.isFree = false) : s.engineQuiet = true := by
  unfold State.engineQuiet
  revert h; cases s.port.state <;> simp [PortState.isFree]

theorem engineQuiet_of_notReady (h : s.sweepReady = false) : s.engineQuiet = true := by
  unfold State.engineQuiet
  split <;> simp [h]

theorem engineQuiet_of_grace {e : Nat} (h : s.port.state = .free (some e)) : s.engineQuiet = true := by
  simp [State.engineQuiet, h]

theorem arbitrate_of_quiet (hb : s.benchAsks = none) (he : s.engineQuiet = true) : s.arbitrate = s := by
  unfold State.arbitrate
  split
  · next grace hp =>
    rw [hb]
    dsimp only
    split
    · cases grace with
      | none => simp_all [State.engineQuiet]
      | some e => simp
    · rfl
  all_goals rfl

theorem arbitrate_grants_bench {b : BenchTask} {grace : Option Nat} (hp : s.port.state = .free grace)
    (hb : s.benchAsks = some b) : s.arbitrate = s.grantBench b grace := by
  simp [State.arbitrate, hp, hb]

theorem arbitrate_grants_sweep {c : Context} (hp : s.port.state = .free none) (hb : s.benchAsks = none)
    (he : s.engine = some c) (hr : s.sweepReady = true) : s.arbitrate = s.grantSweep c := by
  simp [State.arbitrate, hp, hb, he, hr]

/-- With no presentation to take and no grant to make, a command ends with its pins. -/
theorem finish_of_quiet (hp : s.presented = []) (hb : s.benchAsks = none) (he : s.engineQuiet = true) :
    s.finish = s.drivePins := by
  rw [State.finish, takePresented_of_none s hp, arbitrate_of_quiet s hb he]

theorem finish_of_resting (h : s.resting = true) : s.finish = s.drivePins := by
  obtain ⟨a, b, c⟩ := (resting_iff s).1 h; exact finish_of_quiet s a b c

theorem finish_of_held (hp : s.presented = []) (h : s.port.state.isFree = false) : s.finish = s.drivePins := by
  rw [State.finish, takePresented_of_none s hp, arbitrate_of_held s h]

/-- With the slot occupied nothing presented is taken. -/
theorem finish_of_occupied {b : BenchTask} (hs : s.slot = some b) (hb : s.benchAsks = none)
    (he : s.engineQuiet = true) : s.finish = s.drivePins := by
  rw [State.finish, takePresented_of_occupied s hs, arbitrate_of_quiet s hb he]

theorem benchAsks_of_none (h : s.slot = none) : s.benchAsks = none := by simp [State.benchAsks, h]

theorem benchAsks_of_phase {b : BenchTask} (h : s.slot = some b) (hp : b.phase ≠ .waiting) : s.benchAsks = none := by
  simp [State.benchAsks, h, hp]

theorem benchAsks_of_waiting {b : BenchTask} (h : s.slot = some b) (hp : b.phase = .waiting) : s.benchAsks = some b := by
  simp [State.benchAsks, h, hp]

theorem benchReady_iff : s.benchReady = true ↔ s.interval = false ∧ s.cableReset = false ∧ s.slot = none := by
  simp [State.benchReady, and_assoc]

theorem sweepReady_of_held (h : s.holdOn = true) : s.sweepReady = false := by
  unfold State.sweepReady; split <;> simp [h]

theorem look_of_held (b : Bool) (h : s.holdOn = true) : s.look b = s := by simp [State.look, h]

theorem look_of_running (b : Bool) {c : Context} (h : s.engine = some c) : s.look b = s := by simp [State.look, h]

theorem look_of_noneEligible (b : Bool) (h : ∀ r ∈ s.queue, s.eligible r = false) : s.look b = s := by
  unfold State.look
  split
  · have : s.queue.find? s.eligible = none := List.find?_eq_none.2 fun r hr => by simp [h r hr]
    rw [this]
  · rfl

/-- What a look can do: nothing, or the take of the first eligible record by an idle, unheld engine in ACTIVE mode (R49). -/
theorem look_cases (b : Bool) : s.look b = s ∨ ∃ r, s.queue.find? s.eligible = some r ∧ s.engine = none ∧
    s.holdOn = false ∧ s.active = true ∧ s.look b = s.takeRecord b r := by
  unfold State.look
  split
  · next h =>
    simp only [Bool.and_eq_true, Option.isNone_iff_eq_none, Bool.not_eq_true'] at h
    split
    · next r hr => exact .inr ⟨r, hr, h.1.1, h.1.2, h.2, rfl⟩
    · exact .inl rfl
  · exact .inl rfl

theorem wedgedOn_false (h : ∀ u l, s.port.state ≠ .wedged u l) (u : UnitNo) : s.wedgedOn u = false := by
  unfold State.wedgedOn
  split
  · next hv => exact absurd hv (h _ _)
  all_goals rfl

/-! ### Frames of the grants -/

/-- Two states that differ only in the port. -/
theorem putOnDrive_frame (t : Task) : ∃ p, s.putOnDrive t = { s with port := p } := ⟨_, rfl⟩

theorem putOnDrive_state (t : Task) : (s.putOnDrive t).port.state = s.port.state := rfl

/-- Two states that differ only in what issuing a bench task can change: the slot, the port, plan intake's copy, and what
a spindle notice or a pattern loss changes. -/
def SameButIssue (s t : State) : Prop := ∃ b c, SameButSpindle { s with slot := b, copy := c } t

theorem SameButEnding.toIssue {s t : State} (h : SameButEnding s t) : SameButIssue s t :=
  ⟨s.slot, s.copy, s.monitors, h⟩

theorem SameButIssue.trans {s t r : State} (h : SameButIssue s t) (k : SameButIssue t r) : SameButIssue s r := by
  obtain ⟨b, c, m, _, _, _, _, _, _, _, _, _, _, rfl⟩ := h
  obtain ⟨b', c', m', _, _, _, _, _, _, _, _, _, _, rfl⟩ := k
  exact ⟨b', c', m', _, _, _, _, _, _, _, _, _, _, rfl⟩

theorem SameButIssue.ofSlotPort {b : Option BenchTask} {p : Port} : SameButIssue s { s with slot := b, port := p } :=
  ⟨b, s.copy, s.monitors, s.queue, s.entries, s.engine, s.swmark, s.blink, s.counters, s.log, s.nextSeq, s.curve, p, rfl⟩

theorem issuePiece_frame (b : BenchTask) (q : Sequencer) : ∃ c p, s.issuePiece b q = { s with slot := c, port := p } := by
  unfold State.issuePiece
  split
  · exact ⟨_, _, rfl⟩
  · exact ⟨s.slot, s.port, rfl⟩

theorem issueEffects_frame (t : Task) : SameButSpindle s (s.issueEffects t) := by
  unfold State.issueEffects
  split
  · split
    · exact ⟨s.monitors, foldl_keeps SameButEnding.refl SameButEnding.trans _ patternLoss_frame _ s⟩
    · exact ⟨s.monitors, .refl s⟩
  · exact spinDownIssued_frame s _
  all_goals exact ⟨s.monitors, .refl s⟩

theorem issueEffects_issue (t : Task) : SameButIssue s (s.issueEffects t) := by
  obtain ⟨m, h⟩ := issueEffects_frame s t; exact ⟨s.slot, s.copy, m, h⟩

theorem putOnDrive_issue (t : Task) : SameButIssue s (s.putOnDrive t) := SameButIssue.ofSlotPort s (b := s.slot)

theorem issueBench_frame (b : BenchTask) : SameButIssue s (s.issueBench b) := by
  unfold State.issueBench
  split
  · exact (putOnDrive_issue s _).trans (issueEffects_issue _ _)
  · exact (putOnDrive_issue s _).trans (issueEffects_issue _ _)
  · exact putOnDrive_issue s _
  · next q _ => obtain ⟨c, p, h⟩ := issuePiece_frame s b q; rw [h]; exact .ofSlotPort s
  · exact SameButIssue.trans ⟨s.slot, {}, s.monitors, .refl _⟩
      ((putOnDrive_issue _ _).trans (issueEffects_issue _ _))

theorem grantBench_frame (b : BenchTask) (g : Option Nat) : SameButIssue s (s.grantBench b g) :=
  (SameButIssue.ofSlotPort s).trans (issueBench_frame _ _)

theorem grantSweep_frame (c : Context) : ∃ e w p, s.grantSweep c = { s with engine := e, swmark := w, port := p } :=
  ⟨_, _, _, rfl⟩

theorem arbitrate_frame : SameButIssue s s.arbitrate := by
  unfold State.arbitrate
  split
  · split
    · exact grantBench_frame s _ _
    · split
      · split
        · exact ⟨s.slot, s.copy, s.monitors, s.queue, s.entries, _, _, s.blink, s.counters, s.log, s.nextSeq, s.curve,
            _, rfl⟩
        · exact (SameButEnding.refl s).toIssue
      · exact (SameButEnding.refl s).toIssue
  all_goals exact (SameButEnding.refl s).toIssue

theorem takeTask_frame (t : Task) :
    ∃ n b k v, s.takeTask t = { s with counters := n, slot := b, snapNumber := k, snapshot := v } := by
  unfold State.takeTask
  dsimp only
  split
  · split
    · exact ⟨_, _, _, _, rfl⟩
    · exact ⟨_, _, s.snapNumber, s.snapshot, rfl⟩
  all_goals exact ⟨_, _, s.snapNumber, s.snapshot, rfl⟩

theorem takePresented_frame : ∃ l n b k v,
    s.takePresented = { s with presented := l, counters := n, slot := b, snapNumber := k, snapshot := v } := by
  unfold State.takePresented
  split
  · exact ⟨s.presented, s.counters, s.slot, s.snapNumber, s.snapshot, rfl⟩
  · split
    · next t rest _ _ =>
      obtain ⟨n, b, k, v, h⟩ := takeTask_frame { s with presented := rest } t
      exact ⟨_, _, _, _, _, h⟩
    · exact ⟨s.presented, s.counters, s.slot, s.snapNumber, s.snapshot, rfl⟩

end Sys2Proof.Machine
end

