-- ==== Sys2Proof/Laws/Steps.lean ====
section
/-! SUPPORT. What a command can do, said once: POWER_ON apart, a command that answers a next state has made one of the
effects below on the state at its time, and then ended as every command ends (State.finish). Invariants are proved from
this list and never by unfolding exec again. -/

namespace Sys2Proof.Machine

/-- The effects a command can have on `s`, the state with the command's time taken, before the work that ends every
command. -/
inductive Effect (s : State) : State → Prop where
  | nothing : Effect s s
  | intervalEnds (h : Config.powerOnInterval ≤ s.now) : Effect s { s with interval := false }
  | presents (t : Task) : Effect s (s.present t)
  | driveChanges (u : UnitNo) (d : DriveShows) : Effect s (s.driveChanges u d)
  | driveSector (bytes : List Byte) (b : BenchTask) (ha : s.driveAnswers = true) (h : s.issuedTask = some b)
      (hd : deliversSectors b.task.op = true) :
      Effect s ({ s with benchData := bytes }.setSlot (some { b with passed := b.passed + 1 }))
  | benchSector (bytes : List Byte) (b : BenchTask) (ha : s.driveAnswers = true) (h : s.issuedTask = some b)
      (hw : b.task.op = .write) (hh : b.handlesSector = true) : Effect s (s.passWritten b bytes)
  | localSector (b : BenchTask) (l : List Nat) (h : s.slot = some b) (hp : b.phase = .localAnswer)
      (hd : b.disp = .localAnswer l) : Effect s (s.localTaken b l)
  | completionTaken (b : BenchTask) (k : Completion) (h : s.slot = some b) (hp : b.phase = .completing k) :
      Effect s (s.setSlot none)
  | wholeDone (b : BenchTask) (k : Completion) (ha : s.driveAnswers = true) (h : s.issuedTask = some b)
      (hd : b.disp = .pass ∨ (∃ e, b.disp = .apply e) ∨ ∃ n, b.disp = .snoop n) : Effect s (s.wholeDone b k)
  | pieceDone (b : BenchTask) (q : Sequencer) (p : Piece) (k : Completion) (abortBehind : Bool)
      (ha : s.driveAnswers = true) (h : s.issuedTask = some b) (hd : b.disp = .split q) (hp : q.inFlight = some p) :
      Effect s (s.pieceDone b q p k abortBehind)
  | benchAborts (moving beforeRecord : Bool) : Effect s (s.benchAborts moving beforeRecord)
  | cableResets : Effect s s.cableResets
  | cableReleased : Effect s { s with cableReset := false }
  | comparatorSector (bytes : List Byte) (c : Context) (f : Flight) (i : Nat) (ha : s.driveAnswers = true)
      (hr : s.port.state.runningTask = true) (h : s.engine = some c) (hf : c.flight = some f) (hk : f.kind = .point i) :
      Effect s (s.setEngine (some { c with flight := some (c.compare f bytes) }))
  | layDone (c : Context) (f : Flight) (st : Status) (ha : s.driveAnswers = true)
      (hr : s.port.state.runningSweep = true) (h : s.engine = some c) (hf : c.flight = some f)
      (hk : f.kind = .lay) : Effect s (s.layDone c st)
  | pointDone (c : Context) (f : Flight) (i : Nat) (st : Status) (ha : s.driveAnswers = true)
      (hr : s.port.state.runningSweep = true) (h : s.engine = some c) (hf : c.flight = some f)
      (hk : f.kind = .point i) : Effect s (s.pointDone c f i st)
  | abortingDone (u : UnitNo) (w : Owner) (e : Nat) (ha : s.driveAnswers = true) (h : s.port.state = .aborting u w e) :
      Effect s (s.abortingDone w)
  | leftOverDone (ha : s.driveAnswers = true) (h : s.port.state.leftOverTask = true) : Effect s (s.freePort none)
  | lateDone (u : UnitNo) (l : Option LaySupply) (ha : s.driveAnswers = true) (h : s.port.state = .wedged u l) :
      Effect s ((s.freePort none).look false)
  | taskExpires (u : UnitNo) (w : Owner) (e n : Nat) (h : s.port.state = .sweep u w e n) (hd : e ≤ s.now) :
      Effect s (s.expireTask u w e n)
  | secondExpires (u : UnitNo) (w : Owner) (e : Nat) (h : s.port.state = .aborting u w e) (hd : e ≤ s.now) :
      Effect s (s.wedge u w)
  | graceEnds : Effect s (s.setPort (s.port.endGrace s.now))
  | indexPulse (u : UnitNo) : Effect s ({ s with indexOut := some (u, s.now) }.pulse u)
  | stopTimer (u : UnitNo) : Effect s (s.stopTimer u)
  | second (h : (s.seconds + 1) * Config.second ≤ s.now) : Effect s s.markSecond
  | holdChanges (low : Bool) : Effect s { s with holdLine := s.holdLine.change low s.now }
  | holdSettles (h : s.holdLine.due s.now = true) : Effect s s.holdSettles
  | blinkEdge : Effect s (s.setBlink (s.blink.map fun b => b.edge s.now))
  | gapEnds : Effect s (s.setSwmark (s.swmark.endGap s.now))
  | pulseEnds : Effect s (s.setSwmark (s.swmark.endPulse s.now))

/-- The bench task on the drive side whose drive answers. -/
theorem answeredTask_eq (s : State) (b : BenchTask) :
    s.answeredTask = some b ↔ s.driveAnswers = true ∧ s.issuedTask = some b := by
  unfold State.answeredTask; split <;> simp_all

/-- A command that answers a next state is POWER_ON, or has one of the effects and ends as every command ends. -/
theorem exec_effect {c : Instr} {s s' : State} (h : exec c s = .next s') :
    (∃ transparent service, c = .powerOn transparent service) ∨
      ∃ t x, stampOf c = some t ∧ Effect (s.advance t) x ∧ s' = x.finish := by
  cases c
  case powerOn a b => exact .inl ⟨a, b, rfl⟩
  all_goals
    refine .inr ?_
    simp only [exec, execPowerOnIntervalEnd, execRead, execReadRaw, execVerify, execWrite, execSeek, execHome,
      execSetGeometry, execSetOption, execSpinUp, execSpinDown, execPowerQuery, execIdentify, execDriveReady,
      execDriveSectorDelivered, execComparatorSector, execBenchWriteSector, execLocalSectorTaken,
      execBenchTaskCompletion, execPieceCompletion, execBenchTakesCompletion, execBenchAbort, execCableReset,
      execCableResetRelease, execLayCompletion, execPointCompletion, execAbortingCompletion, execLeftOverCompletion,
      execLateCompletion, execTaskExpiry, execSecondExpiry, execGraceExpiry, execIndexPulse, execStopTimerExpiry,
      execSecondMark, execHoldLineChange, execHoldDebounceExpiry, execReadyBlinkEdge, execSwmarkGapEnd,
      execSwmarkPulseEnd, State.benchTask] at h
  case powerOnIntervalEnd t =>
    split at h <;> cases h
    · exact ⟨_, _, rfl, .intervalEnds ‹_›, rfl⟩
    · exact ⟨_, _, rfl, .nothing, rfl⟩
  case driveReady t u => cases h; exact ⟨_, _, rfl, .driveChanges u.unit u.shows, rfl⟩
  case driveSectorDelivered t bytes =>
    split at h
    · next ha =>
      obtain ⟨ha, hi⟩ := (answeredTask_eq _ _).1 ha
      split at h <;> cases h
      exact ⟨_, _, rfl, .driveSector bytes _ ha hi ‹_›, rfl⟩
    · cases h
  case comparatorSector t bytes =>
    split at h
    · next ha =>
      obtain ⟨ha, hr⟩ := Bool.and_eq_true_iff.1 ha
      split at h
      · split at h <;> cases h
        exact ⟨_, _, rfl, .comparatorSector bytes _ _ _ ha hr ‹_› ‹_› rfl, rfl⟩
      · cases h
    · split at h <;> cases h
      exact ⟨_, _, rfl, .nothing, rfl⟩
  case benchWriteSector t bytes =>
    split at h
    · next ha =>
      obtain ⟨ha, hi⟩ := (answeredTask_eq _ _).1 ha
      split at h <;> cases h
      split
      · exact ⟨_, _, rfl, .benchSector bytes _ ha hi ‹_› ‹_›, rfl⟩
      · exact ⟨_, _, rfl, .nothing, rfl⟩
    · cases h
  case localSectorTaken t =>
    split at h
    · split at h <;> cases h
      exact ⟨_, _, rfl, .localSector _ _ ‹_› ‹_› ‹_›, rfl⟩
    · cases h
  case benchTaskCompletion t k =>
    split at h
    · next ha =>
      obtain ⟨ha, hi⟩ := (answeredTask_eq _ _).1 ha
      split at h <;> cases h
      · exact ⟨_, _, rfl, .wholeDone _ _ ha hi (.inl ‹_›), rfl⟩
      · exact ⟨_, _, rfl, .wholeDone _ _ ha hi (.inr (.inl ⟨_, ‹_›⟩)), rfl⟩
      · exact ⟨_, _, rfl, .wholeDone _ _ ha hi (.inr (.inr ⟨_, ‹_›⟩)), rfl⟩
    · cases h
  case pieceCompletion t k =>
    split at h
    · next ha =>
      obtain ⟨ha, hi⟩ := (answeredTask_eq _ _).1 ha
      split at h
      · split at h <;> cases h
        exact ⟨_, _, rfl, .pieceDone _ _ _ _ _ ha hi ‹_› ‹_›, rfl⟩
      all_goals cases h
    · cases h
  case benchTakesCompletion t =>
    split at h
    · split at h <;> cases h
      exact ⟨_, _, rfl, .completionTaken _ _ ‹_› ‹_›, rfl⟩
    · cases h
  case benchAbort t => cases h; exact ⟨_, _, rfl, .benchAborts t.moving t.beforeRecord, rfl⟩
  case cableReset t => cases h; exact ⟨_, _, rfl, .cableResets, rfl⟩
  case cableResetRelease t => cases h; exact ⟨_, _, rfl, .cableReleased, rfl⟩
  case layCompletion t k =>
    split at h
    · next ha =>
      obtain ⟨ha, hr⟩ := Bool.and_eq_true_iff.1 ha
      split at h
      · split at h <;> cases h
        exact ⟨_, _, rfl, .layDone _ _ _ ha hr ‹_› ‹_› rfl, rfl⟩
      · cases h
    · cases h
  case pointCompletion t k =>
    split at h
    · next ha =>
      obtain ⟨ha, hr⟩ := Bool.and_eq_true_iff.1 ha
      split at h
      · split at h <;> cases h
        exact ⟨_, _, rfl, .pointDone _ _ _ _ ha hr ‹_› ‹_› rfl, rfl⟩
      · cases h
    · cases h
  case abortingCompletion t k =>
    split at h
    · split at h <;> cases h
      exact ⟨_, _, rfl, .abortingDone _ _ _ ‹_› ‹_›, rfl⟩
    all_goals cases h
  case leftOverCompletion t k =>
    split at h <;> cases h
    next ha => exact ⟨_, _, rfl, .leftOverDone (Bool.and_eq_true_iff.1 ha).1 (Bool.and_eq_true_iff.1 ha).2, rfl⟩
  case lateCompletion t k =>
    split at h
    · split at h <;> cases h
      exact ⟨_, _, rfl, .lateDone _ _ ‹_› ‹_›, rfl⟩
    all_goals cases h
  case taskExpiry t =>
    split at h
    · split at h <;> cases h
      · exact ⟨_, _, rfl, .taskExpires _ _ _ _ ‹_› ‹_›, rfl⟩
      · exact ⟨_, _, rfl, .nothing, rfl⟩
    all_goals cases h; exact ⟨_, _, rfl, .nothing, rfl⟩
  case secondExpiry t =>
    split at h
    · split at h <;> cases h
      · exact ⟨_, _, rfl, .secondExpires _ _ _ ‹_› ‹_›, rfl⟩
      · exact ⟨_, _, rfl, .nothing, rfl⟩
    all_goals cases h; exact ⟨_, _, rfl, .nothing, rfl⟩
  case graceExpiry t => cases h; exact ⟨_, _, rfl, .graceEnds, rfl⟩
  case indexPulse t u => cases h; exact ⟨_, _, rfl, .indexPulse u, rfl⟩
  case stopTimerExpiry t u => cases h; exact ⟨_, _, rfl, .stopTimer u, rfl⟩
  case secondMark t =>
    split at h <;> injection h with h <;> subst h
    · exact ⟨_, _, rfl, .second ‹_›, rfl⟩
    · exact ⟨_, _, rfl, .nothing, rfl⟩
  case holdLineChange t low => cases h; exact ⟨_, _, rfl, .holdChanges low, rfl⟩
  case holdDebounceExpiry t =>
    split at h <;> cases h
    · exact ⟨_, _, rfl, .holdSettles ‹_›, rfl⟩
    · exact ⟨_, _, rfl, .nothing, rfl⟩
  case readyBlinkEdge t => cases h; exact ⟨_, _, rfl, .blinkEdge, rfl⟩
  case swmarkGapEnd t => cases h; exact ⟨_, _, rfl, .gapEnds, rfl⟩
  case swmarkPulseEnd t => cases h; exact ⟨_, _, rfl, .pulseEnds, rfl⟩
  all_goals cases h; exact ⟨_, _, rfl, .presents _, rfl⟩

/-- A property that does not look at the queue of commands, and that the passing of time, every effect, the work that ends
a command and POWER_ON keep, is kept by every step. -/
theorem step_keeps {P : State → Prop} (queue : ∀ s l, P s → P { s with pending := l })
    (time : ∀ s t, P s → P (s.advance t)) (effect : ∀ s x, P s → Effect s x → P x) (finish : ∀ s, P s → P s.finish)
    (power : ∀ s x transparent service, P s → exec (.powerOn transparent service) s = .next x → P x)
    {s s' : State} (hs : P s) (h : step s = .next s') : P s' := by
  unfold step at h
  split at h
  · cases h; exact hs
  · next i rest _ =>
    rcases exec_effect h with ⟨a, b, rfl⟩ | ⟨t, x, _, hx, rfl⟩
    · exact power _ _ a b (queue s rest hs) h
    · exact finish _ (effect _ _ (time _ t (queue s rest hs)) hx)

end Sys2Proof.Machine
end

