-- ==== Sys2Proof/Laws/Bench.lean ====
section
/-! SUPPORT. How a command ends when little is left to do, and a bench command from its presentation to its grant. -/

namespace Sys2Proof.Machine

variable (s : State)

theorem next_of_resting (x y : State) (h : x.resting = true) (e : x = y) :
    (Host.Outcome.next x.finish : Result) = .next y.drivePins := by rw [finish_of_resting x h, e]

theorem next_of_quiet (x y : State) (hp : x.presented = []) (hb : x.benchAsks = none) (he : x.engineQuiet = true)
    (e : x = y) : (Host.Outcome.next x.finish : Result) = .next y.drivePins := by rw [finish_of_quiet x hp hb he, e]

theorem next_of_occupied (x y : State) {b : BenchTask} (hs : x.slot = some b) (hb : x.benchAsks = none)
    (he : x.engineQuiet = true) (e : x = y) : (Host.Outcome.next x.finish : Result) = .next y.drivePins := by
  rw [finish_of_occupied x hs hb he, e]

theorem next_of_held (x y : State) (hp : x.presented = []) (h : x.port.state.isFree = false) (e : x = y) :
    (Host.Outcome.next x.finish : Result) = .next y.drivePins := by rw [finish_of_held x hp h, e]

/-- Every bench command presents its record and ends as every command ends. -/
theorem exec_benchCommand (op : Op) (t : Nat) (f : TaskFields) :
    exec (benchCommand op t f) s = .next (s.benchTask t op f) := by cases op <;> rfl

/-- With READY showing and no other presentation, the record presented is the one taken (R26). -/
theorem takePresented_present (op : Op) (t : Nat) (f : TaskFields) (hr : s.benchReady = true) (hp : s.presented = []) :
    ((s.advance t).present ⟨op, f⟩).takePresented = (s.advance t).takeTask ⟨op, f⟩ := by
  rw [takePresented_of_ready (t := ⟨op, f⟩) (rest := []) ((s.advance t).present ⟨op, f⟩)
    (by simp [State.present, hp]) hr]
  congr 1
  simp [State.advance, State.present, hp]

/-- A task that is not LOCAL waits in the slot with its disposition, its counter moved (R26, R127). -/
theorem takeTask_waits (t : Task) {d : Disposition} {n : CounterName} (hd : s.dispositionOf t = (d, n))
    (hl : ∀ l, d ≠ .localAnswer l) :
    s.takeTask t =
      { s with counters := s.counters.bump n, slot := some { task := t, disp := d, phase := .waiting } } := by
  unfold State.takeTask
  rw [hd]
  cases d <;> first | rfl | exact absurd rfl (hl _)

/-- A bench command that READY admits while the port is FREE is taken, disposed and granted, in one (R26, R130). -/
theorem exec_bench_grants (op : Op) (t : Nat) (f : TaskFields) {grace : Option Nat} {d : Disposition} {n : CounterName}
    (hr : s.benchReady = true) (hp : s.presented = []) (hf : s.port.state = .free grace)
    (hd : s.dispositionOf ⟨op, f⟩ = (d, n)) (hl : ∀ l, d ≠ .localAnswer l) :
    exec (benchCommand op t f) s = .next (State.drivePins <|
      State.grantBench { s.advance t with
          counters := s.counters.bump n
          slot := some { task := ⟨op, f⟩, disp := d, phase := .waiting } }
        { task := ⟨op, f⟩, disp := d, phase := .waiting } grace) := by
  rw [exec_benchCommand]
  unfold State.benchTask State.finish
  rw [takePresented_present s op t f hr hp, takeTask_waits (s.advance t) _ hd hl]
  exact congrArg (fun z => Host.Outcome.next (State.drivePins z))
    (arbitrate_grants_bench _ hf (benchAsks_of_waiting _ rfl rfl))

/-- With a bench task WAITING in the slot a command that leaves the port FREE ends with its grant (R26, R130). -/
theorem finish_of_waiting {b : BenchTask} {grace : Option Nat} (hs : s.slot = some b) (hp : b.phase = .waiting)
    (hf : s.port.state = .free grace) : s.finish = (s.grantBench b grace).drivePins := by
  unfold State.finish
  rw [takePresented_of_occupied _ hs]
  exact congrArg State.drivePins (arbitrate_grants_bench _ hf (benchAsks_of_waiting _ hs hp))

/-- The grant of a WAITING PASS or APPLY on a port just freed, seen from a state with the same drives, entries and
grace-run count (R8, R114, R131). -/
theorem grantBench_eq_portGranted (t : State) {b : BenchTask} (ha : s.port.abort = false)
    (hg : s.port.graceRun = t.port.graceRun) (he : ∀ i, s.entry i = t.entry i) (hd : s.driveShows = t.driveShows)
    (hb : (∃ a, b.disp = .apply a) ∨ b.disp = .pass ∧ b.task.op ∉ [Op.write, .spinDown]) :
    s.grantBench b none = { s with slot := some { b with phase := .issued }, port := t.portGranted b } := by
  have ho : ∀ u, s.opensTask u = t.opensTask u := fun u => by simp [State.opensTask, hd]
  unfold State.grantBench State.issueBench
  dsimp only
  rcases hb with ⟨a, ha'⟩ | ⟨h1, h2⟩
  · rw [ha']
    simp [State.putOnDrive, State.setPort, State.setSlot, State.portGranted, ha', State.graceRunAtGrant, ha, hg, ← he,
      ← ho, State.offsetFor]
    exact ⟨rfl, rfl⟩
  · have hi : ∀ z : State, z.issueEffects b.task = z := fun z => by
      unfold State.issueEffects
      cases h : b.task.op <;> simp_all
    rw [h1]
    dsimp only
    rw [hi]
    simp [State.putOnDrive, State.setPort, State.setSlot, State.portGranted, h1, State.graceRunAtGrant, ha, hg, ← ho]
    rfl

/-- The record of a sweep's next task is the one the arbiter grants (R53, R59). -/
theorem nextFlight_eq (c : Context) : c.nextFlight = c.dueFlight := by
  unfold Context.nextFlight Context.dueFlight
  cases c.phase <;> rfl

/-- With no bench task asking, the grant decision lets an asking engine in where no grace runs, and nothing else (R130,
R132, R133). -/
theorem arbitrate_eq_sweepLetIn (hb : s.benchAsks = none) : s.arbitrate = s.sweepLetIn := by
  unfold State.arbitrate State.sweepLetIn
  rw [hb]
  cases hp : s.port.state with
  | free g =>
    cases he : s.engine with
    | none => cases g <;> rfl
    | some c =>
      cases g with
      | some e => simp
      | none =>
        have hu : c.dueFlight.task.fields.unit = unitOf c.subject := by unfold Context.dueFlight; cases c.phase <;> rfl
        have hw : s.swmarkAtGrant c.dueFlight.kind = if s.plan.swmarkMode = .point ∧ c.phase = .sweeping then
            ⟨true, none, some (s.now + 10)⟩ else s.swmark := by
          unfold State.swmarkAtGrant Context.dueFlight
          cases hm : s.plan.swmarkMode <;> cases hc : c.phase <;> simp [Config.swmarkPulse]
        cases hr : s.sweepReady with
        | false => simp
        | true =>
          simp only [Bool.true_and, Option.isNone_none, if_true]
          unfold State.grantSweep State.putOnDrive
          rw [nextFlight_eq]
          dsimp only
          rw [hw, hu]
          rfl
  | _ => rfl

/-- A command that leaves the slot in COMPLETING ends with the engine's grant, where it has one coming (R26, R130). -/
theorem finish_of_completing {b : BenchTask} {k : Completion} (hs : s.slot = some b) (hp : b.phase = .completing k) :
    s.finish = s.sweepLetIn.drivePins := by
  unfold State.finish
  rw [takePresented_of_occupied _ hs, arbitrate_eq_sweepLetIn]
  simp [State.benchAsks, hs, hp]

/-- An ISSUED task whose drive answers is the one a sector or a completion belongs to (R24, R25). -/
theorem answeredTask_of_issued (t : Nat) {b : BenchTask} (hs : s.slot = some b) (hp : b.phase = .issued)
    (ha : s.driveAnswers = true) : (s.advance t).answeredTask = some b := by
  have h : (s.advance t).driveAnswers = true := ha
  simp [State.answeredTask, State.issuedTask, hs, hp, h]

/-- What the bench receives of service-area sector `n` (R171, R176). -/
theorem localSector_eq (op : Op) (n : Nat) (h : op = .read ∨ op = .readRaw) : s.localSector op n =
    (if n = 1 then planSector s.plan else s.reportSector n) ++ (if op = .readRaw then List.replicate 8 0 else []) := by
  unfold State.localSector
  rcases h with h | h <;> rw [h] <;> simp <;> rfl

/-- What a bench abort does to a LOCAL answer (R175). -/
theorem benchAborts_of_local (t : Nat) (moving beforeRecord : Bool) {b : BenchTask} {l : List Nat} (hs : s.slot = some b)
    (hp : b.phase = .localAnswer) (hd : b.disp = .localAnswer l) :
    (s.advance t).benchAborts moving beforeRecord = (s.advance t).localAborts b l moving := by
  unfold State.benchAborts
  rw [show (s.advance t).slot = some b from hs]
  dsimp only
  rw [hp, hd]

/-- A task of one sector or more that can be located has a sector. -/
theorem locate_ne_nil {g : Option Geometry} {f : TaskFields} {n : Nat} (hn : 1 ≤ n) {secs : List Chs}
    (h : locate g f n = some secs) : secs ≠ [] := by
  rintro rfl
  unfold locate Geometry.run at h
  split at h
  · split at h
    · dsimp only at h; split at h <;> simp at h; omega
    · cases h
  · dsimp only at h; split at h <;> simp at h; omega
  · simp at h; omega
  · cases h

theorem inServiceArea_iff (strap : BitVec 8) (c : Chs) : inServiceArea strap c = true ↔
    c.cylinder = strap.toNat * 256 ∧ c.head = 0 ∧ 1 ≤ c.sector ∧ c.sector ≤ 8 := by
  simp only [inServiceArea, Bool.and_eq_true, decide_eq_true_eq, and_assoc]; rfl

end Sys2Proof.Machine
end

