-- ==== Sys2Proof/Laws/Sweeps.lean ====
section
/-! SUPPORT. What a request, a look and the ending of a sweep do to the queue, the map, the log and the engine. -/

namespace Sys2Proof.Machine

variable (s : State)

/-! ### Requests (R44, R45) -/

theorem request_of_outOfScope {i : EntryNo} (c : Cause) (h : s.plan.inScope i = false) : s.request i c = s := by
  simp [State.request, h]

theorem request_of_subject {i : EntryNo} (c : Cause) (h : s.isSubject i = true) : s.request i c = s := by
  simp [State.request, h]

theorem request_of_queued {i : EntryNo} (c : Cause) (h : s.isQueued i = true) : s.request i c = s := by
  simp [State.request, h]

theorem request_of_room {i : EntryNo} (c : Cause) (hs : s.plan.inScope i = true) (hj : s.isSubject i = false)
    (hq : s.isQueued i = false) (hl : s.queue.length < 16) :
    s.request i c = (s.setQueue (s.queue ++ [⟨i, c⟩])).setEntry i { s.entry i with wanted := none } := by
  simp [State.request, hs, hj, hq, Config.queueCapacity, hl]

theorem request_of_full {i : EntryNo} (c : Cause) (hs : s.plan.inScope i = true) (hj : s.isSubject i = false)
    (hq : s.isQueued i = false) (hl : 16 ≤ s.queue.length) :
    s.request i c = s.setEntry i { s.entry i with wanted := some c } := by
  simp [State.request, hs, hj, hq, Config.queueCapacity, Nat.not_lt.2 hl]

theorem isSubject_iff {i : EntryNo} : s.isSubject i = true ↔ ∃ c, s.engine = some c ∧ c.subject = i := by
  unfold State.isSubject
  split <;> simp_all

theorem isSubject_of_idle (h : s.engine = none) (i : EntryNo) : s.isSubject i = false := by simp [State.isSubject, h]

theorem isQueued_iff {i : EntryNo} : s.isQueued i = true ↔ ∃ r ∈ s.queue, r.entry = i := by simp [State.isQueued]

theorem requestFront_of_room (i : EntryNo) (hl : s.queue.length < 16) :
    s.requestFront i = s.setQueue (⟨i, .resume⟩ :: s.queue) := by
  simp [State.requestFront, State.displaceTail, Config.queueCapacity, hl]

/-! ### The ending of a sweep (R86) -/

theorem endSweep_of_held (g : Ending) (h : s.holdOn = true) : s.endSweep g = s.endSweepNoLook g := by
  unfold State.endSweep
  split
  · simp [State.endSweepNoLook, *]
  · refine look_of_held _ _ ?_
    obtain ⟨_, _, _, _, _, _, _, _, _, _, hf⟩ := endSweepNoLook_frame s g
    rw [hf]; exact h

theorem endSweepNoLook_of_running {c : Context} (g : Ending) (h : s.engine = some c) :
    s.endSweepNoLook g = (s.settleEnding c g).requeueSubject c.subject (g.requeue (s.entry c.subject)) := by
  simp [State.endSweepNoLook, h]

theorem endSweep_of_idle (g : Ending) (h : s.engine = none) : s.endSweep g = s := by simp [State.endSweep, h]

theorem endSweepNoLook_idle (g : Ending) : (s.endSweepNoLook g).engine = none := by
  unfold State.endSweepNoLook
  split
  · assumption
  · obtain ⟨_, _, h⟩ := requeueSubject_frame (s.settleEnding _ g) _ (g.requeue (s.entry _))
    rw [h]; rfl

/-- An ending frees, keeps or hands over the port as R97 says; the requeue does not touch it. -/
theorem endSweepNoLook_port {c : Context} (g : Ending) (h : s.engine = some c) :
    (s.endSweepNoLook g).port = s.port.orphan c := by
  rw [endSweepNoLook_of_running _ _ h]
  obtain ⟨_, _, hq⟩ := requeueSubject_frame (s.settleEnding c g) c.subject (g.requeue (s.entry c.subject))
  rw [hq]; rfl

/-- After an ending without a look nothing is left to grant to the engine. -/
theorem finish_endSweepNoLook (g : Ending) (hp : s.presented = []) (hb : s.benchAsks = none) :
    (s.endSweepNoLook g).finish = (s.endSweepNoLook g).drivePins := by
  obtain ⟨_, _, _, _, _, _, _, _, _, _, hf⟩ := endSweepNoLook_frame s g
  refine finish_of_quiet _ (by rw [hf]; exact hp) (by rw [hf]; exact hb) (engineQuiet_of_notReady _ ?_)
  simp [State.sweepReady, endSweepNoLook_idle]

theorem settleEnding_entry (c : Context) (g : Ending) (i : EntryNo) : (s.settleEnding c g).entry i =
    if i = c.subject then (s.entry c.subject).ended c g else s.entry i := State.entry_setEntry s c.subject i _

/-- A full log loses its oldest record (R102). -/
theorem appendLog_eq (log : List ResultRec) (r : ResultRec) :
    appendLog log r = (if log.length < 30 then log else log.tail) ++ [r] := by
  unfold appendLog Config.logCapacity; split <;> rfl

/-- SWMARK at an ending is low in SWEEP mode and stands in the others (R182). -/
theorem swmarkStop_eq : s.swmarkStop = s.markerAfterEnding := by
  unfold State.swmarkStop State.markerAfterEnding; cases s.plan.swmarkMode <;> rfl

/-- A front request to a full queue displaces the tail record, whose entry is marked wanted (R45). -/
theorem requestFront_of_full (i : EntryNo) {front : List QueueRec} {r : QueueRec} (hq : s.queue = front ++ [r])
    (hl : 16 ≤ s.queue.length) : s.requestFront i =
      ((s.setQueue (⟨i, .resume⟩ :: front)).setEntry r.entry { s.entry r.entry with wanted := some r.cause }) := by
  have hd : s.queue.dropLast = front := by simp [hq]
  have hg : s.queue.getLast? = some r := by simp [hq]
  simp only [State.requestFront, State.displaceTail, Config.queueCapacity, Nat.not_lt.2 hl, if_false, hg, hd]
  rfl

/-- An abort from outside, without its look, puts the subject back and first in the queue (R45, R93, R95). -/
theorem endSweepNoLook_resumed {c : Context} {g : Ending} (h : s.engine = some c)
    (hl : s.queue.length < 16 ∨ s.isQueued c.subject = false)
    (hg : g = .abortedSpindle ∨ g = .abortedSpinDown ∨ g = .abortedPattern ∨ g = .abortedReset) :
    EndsResumed s (s.endSweepNoLook g) c g.outcome := by
  have hq : g.requeue (s.entry c.subject) = some .resume := by rcases hg with rfl | rfl | rfl | rfl <;> rfl
  have e : s.endSweepNoLook g = (s.settleEnding c g).requestFront c.subject := by
    rw [endSweepNoLook_of_running s g h, hq]; rfl
  have hr : appendLog s.log ⟨s.nextSeq, c.subject, c.cause, g.outcome, c.points, g.opening⟩ =
      (if s.log.length < 30 then s.log else s.log.tail) ++
        [⟨s.nextSeq, c.subject, c.cause, g.outcome, c.points, none⟩] := by
    have : g.opening = none := by rcases hg with rfl | rfl | rfl | rfl <;> rfl
    rw [appendLog_eq, this]
  have hc : s.curveAfter c g = s.curve := by rcases hg with rfl | rfl | rfl | rfl <;> rfl
  have hs : (s.settleEnding c g).entry c.subject = { s.entry c.subject with
      state := c.priorState, candidate := c.priorCandidate, lastOutcome := some g.outcome } := by
    rw [settleEnding_entry, if_pos rfl]
    rcases hg with rfl | rfl | rfl | rfl <;> rfl
  by_cases hl' : s.queue.length < 16
  · have hf := requestFront_of_room (s.settleEnding c g) c.subject hl'
    rw [e, hf]
    exact {
      idle := rfl, marker := swmarkStop_eq s, blinkOver := rfl, counted := rfl, record := hr, nextNumber := rfl
      curveKept := hc, restored := hs, resumed := fun _ => rfl, displaced := fun _ _ _ hn => absurd hl' (Nat.not_lt.2 hn)
      othersKept := fun i hi _ => (settleEnding_entry s c g i).trans (if_neg hi) }
  · have hn := Nat.not_lt.1 hl'
    obtain ⟨front, r, hfr⟩ : ∃ front r, s.queue = front ++ [r] :=
      (List.eq_nil_or_concat s.queue).elim (fun h0 => by simp [h0] at hn) (fun ⟨a, b, hab⟩ => ⟨a, b, by simpa using hab⟩)
    have hne : c.subject ≠ r.entry := by
      intro he
      have : s.isQueued c.subject = true := (isQueued_iff s).2 ⟨r, by simp [hfr], he.symm⟩
      simp [hl.resolve_left hl'] at this
    have hf := requestFront_of_full (s.settleEnding c g) c.subject hfr hn
    rw [e, hf]
    exact {
      idle := rfl, marker := swmarkStop_eq s, blinkOver := rfl, counted := rfl, record := hr, nextNumber := rfl
      curveKept := hc
      restored := (State.entry_setEntry_ne _ _ hne).trans hs
      resumed := fun h16 => absurd h16 hl'
      displaced := by
        intro front' r' h' _
        obtain ⟨rfl, h1⟩ := List.append_inj' (hfr.symm.trans h') rfl
        obtain rfl : r = r' := by simpa using h1
        refine ⟨rfl, (State.entry_setEntry_self _ _ _).trans ?_⟩
        rw [settleEnding_entry, if_neg hne.symm]
      othersKept := by
        intro i hi hr'
        have : i ≠ r.entry := fun hx => (hr' r (by simp [hfr])).elim hl' fun h' => h' hx.symm
        rw [State.entry_setEntry_ne _ _ this]
        exact (settleEnding_entry s c g i).trans (if_neg hi) }

/-- A first failure, without its look, puts the subject back with its retry spent and asks for it again; a second one sends
it to FAILED (R90, R91, R95). -/
theorem endSweepNoLook_failure {c : Context} {g : Ending} (h : s.engine = some c) (hg : g = .layFailed ∨ g = .timeout) :
    ((s.entry c.subject).retries = 0 → s.plan.inScope c.subject = true → s.isQueued c.subject = false →
        s.queue.length < 16 → EndsRetried s (s.endSweepNoLook g) c g.outcome) ∧
      ((s.entry c.subject).retries ≠ 0 → EndsFailed s (s.endSweepNoLook g) c g.outcome) := by
  have hlog : appendLog s.log ⟨s.nextSeq, c.subject, c.cause, g.outcome, c.points, g.opening⟩ =
      (if s.log.length < 30 then s.log else s.log.tail) ++
        [⟨s.nextSeq, c.subject, c.cause, g.outcome, c.points, none⟩] := by
    have : g.opening = none := by rcases hg with rfl | rfl <;> rfl
    rw [appendLog_eq, this]
  have hcurve : s.curveAfter c g = s.curve := by rcases hg with rfl | rfl <;> rfl
  constructor
  · intro hr hs hq hl
    have he : g.requeue (s.entry c.subject) = some .retry := by rcases hg with rfl | rfl <;> simp [Ending.requeue, hr]
    have e := endSweepNoLook_of_running s g h
    rw [he, show (s.settleEnding c g).requeueSubject c.subject (some .retry) = (s.settleEnding c g).request c.subject .retry
      from rfl, request_of_room (s.settleEnding c g) .retry hs rfl hq hl] at e
    rw [e]
    refine { idle := rfl, marker := swmarkStop_eq s, blinkOver := rfl, counted := rfl, record := hlog, nextNumber := rfl,
             curveKept := hcurve, othersKept := ?_, restored := ?_, requeued := rfl }
    · rw [State.entry_setEntry_self, settleEnding_entry, if_pos rfl]
      rcases hg with rfl | rfl <;> simp [Entry.ended, Entry.afterEnding, Entry.afterFailure, Entry.restore, hr]
    · intro i hi
      rw [State.entry_setEntry_ne _ _ hi]
      exact (settleEnding_entry s c g i).trans (if_neg hi)
  · intro hr
    have he : g.requeue (s.entry c.subject) = none := by rcases hg with rfl | rfl <;> simp [Ending.requeue, hr]
    have e := endSweepNoLook_of_running s g h
    rw [he, show (s.settleEnding c g).requeueSubject c.subject none = s.settleEnding c g from rfl] at e
    rw [e]
    refine { idle := rfl, marker := swmarkStop_eq s, blinkOver := rfl, counted := rfl, record := hlog, nextNumber := rfl,
             curveKept := hcurve, othersKept := ?_, failed := ?_, notRequeued := rfl }
    · rw [settleEnding_entry, if_pos rfl]
      rcases hg with rfl | rfl <;> simp [Entry.ended, Entry.afterEnding, Entry.afterFailure, hr]
    · intro i hi
      exact (settleEnding_entry s c g i).trans (if_neg hi)

/-- An ending said of one state holds of any state with the same counters, log, curve, SWMARK and plan, and of the pins
driven after it. -/
theorem EndsUnfitted.carry {s s1 t : State} {c c1 : Context} {g : SweepOutcome} (h : EndsUnfitted s1 t c1 g)
    (k1 : c1.subject = c.subject) (k2 : c1.cause = c.cause) (k3 : c1.points = c.points)
    (a1 : s1.counters = s.counters) (a2 : s1.log = s.log) (a3 : s1.nextSeq = s.nextSeq) (a4 : s1.curve = s.curve)
    (a5 : s1.swmark = s.swmark) (a6 : s1.plan = s.plan) : EndsUnfitted s t.drivePins c g := by
  obtain ⟨b1, b2, b3, b4, b5, b6, b7⟩ := h
  unfold State.markerAfterEnding at b2
  rw [a5, a6] at b2
  rw [a1] at b4; rw [a2, a3, k1, k2, k3] at b5; rw [a3] at b6; rw [a4] at b7
  exact ⟨b1, b2, b3, b4, b5, b6, b7⟩

end Sys2Proof.Machine
end

