-- ==== Sys2Proof/Laws/Drift.lean ====
section
/-! SUPPORT. Drift evidence (R12 to R14): what a drift event does, under the hold condition, in the terms of the
statements. -/

namespace Sys2Proof.Machine

variable (s : State)

theorem trusted_iff (e : Entry) : e.trusted = true ↔ e.state = .valid ∨ e.state = .marginal := by simp [Entry.trusted]

/-- The score after a completion, by its status (R13). -/
theorem driftAfter_eq (op : Op) (k : Completion) (n : Nat) : driftAfter op k n = (match k.status with
    | .good => if op = .read ∧ k.corrected = true then min 255 (n + 2) else n - 1
    | .error kind => if kind ∈ [ErrorKind.data, .addressMark, .noSector] then min 255 (n + 8) else n) := by
  unfold driftAfter
  cases k.status with
  | good => rfl
  | error e => cases e <;> rfl

/-- Drift evidence between two states says the same of any two with their maps, queues, engines and logs. -/
theorem DriftEvidence.carry {s t s' t' : State} {e : EntryNo} {op : Op} {k : Completion} (h : DriftEvidence s t e op k)
    (a1 : s'.entries = s.entries) (a2 : s'.queue = s.queue) (a3 : s'.engine = s.engine) (a4 : s'.log = s.log)
    (a5 : s'.plan = s.plan) (b1 : t'.entries = t.entries) (b2 : t'.queue = t.queue) (b3 : t'.engine = t.engine)
    (b4 : t'.log = t.log) : DriftEvidence s' t' e op k := by
  have hs : ∀ i, s'.entry i = s.entry i := fun i => by unfold State.entry; rw [a1]
  have ht : ∀ i, t'.entry i = t.entry i := fun i => by unfold State.entry; rw [b1]
  have hq : ∀ i, s'.isQueued i = s.isQueued i := fun i => by unfold State.isQueued; rw [a2]
  have hj : ∀ i, s'.isSubject i = s.isSubject i := fun i => by unfold State.isSubject; rw [a3]
  obtain ⟨c1, c2, c3, c4, c5⟩ := h
  refine ⟨fun i hi => ?_, ?_, ?_, ?_, ?_⟩
  · rw [hs, ht]; exact c1 i hi
  · rw [b3, a3, c2]
  · rw [b4, a4, c3]
  · rw [hs, ht, a5, b2, a2]; exact c4
  · rw [hs, ht, a5, b2, a2, hq, hj]; exact c5

/-- With the hold condition on, a drift event changes the map and the queue only. -/
theorem driftEvent_frame_of_held (e : EntryNo) (op : Op) (k : Completion) (h : s.holdOn = true) :
    SameButQueue s (s.driftEvent e op k) := by
  unfold State.driftEvent
  split
  · dsimp only
    split
    · let t := s.setEntry e { s.entry e with drift := driftAfter op k (s.entry e).drift, state := .stale }
      obtain ⟨q, v, hr⟩ := request_frame t e .drift
      rw [look_of_held _ _ (by rw [hr]; exact h)]
      exact SameButQueue.trans ⟨_, _, rfl⟩ ⟨q, v, hr⟩
    · exact ⟨_, _, rfl⟩
  · exact .refl s

/-- With the hold condition on, a drift event does what R12 to R14 say. -/
theorem driftEvent_evidence (e : EntryNo) (op : Op) (k : Completion) (h : s.holdOn = true) :
    DriftEvidence s (s.driftEvent e op k) e op k := by
  unfold State.driftEvent
  by_cases hc : (s.plan.inScope e && (s.entry e).trusted) = true
  · rw [if_pos hc]
    dsimp only
    simp only [Bool.and_eq_true, trusted_iff] at hc
    generalize hs : driftAfter op k (s.entry e).drift = sc
    have nd : ¬ (s.plan.inScope e = false ∨ ((s.entry e).state ≠ .valid ∧ (s.entry e).state ≠ .marginal)) := by
      rintro (hh | hh)
      · rw [hc.1] at hh; cases hh
      · rcases hc.2 with h2 | h2 <;> simp [h2] at hh
    by_cases hl : s.plan.driftLimit ≤ sc
    · rw [if_pos hl]
      let u := s.setEntry e { s.entry e with drift := sc, state := .stale }
      obtain ⟨q, v, hr⟩ := request_frame u e .drift
      rw [look_of_held (u.request e .drift) _ (by rw [hr]; exact h)]
      refine ⟨fun i hi => ?_, by rw [hr]; rfl, by rw [hr]; rfl, fun hh => absurd hh nd, ?_⟩
      · unfold State.request
        split <;> [skip; split <;> [skip; split <;> [skip; split]]] <;> simp [u, State.entry_setEntry_ne, hi]
      · intro _ _ before score
        have e1 : score = sc := (driftAfter_eq op k _).symm.trans hs
        clear_value score
        subst e1
        refine ⟨fun hlt => absurd hl (Nat.not_le.2 hlt), fun _ => ⟨fun hh => ?_, fun ha hb => ⟨fun hlt => ?_, fun hge => ?_⟩⟩⟩
        · have : u.request e .drift = u := by
            rcases hh with hh | hh
            · exact request_of_subject u _ hh
            · exact request_of_queued u _ hh
          rw [this]; exact ⟨State.entry_setEntry_self _ _ _, rfl⟩
        · rw [request_of_room u .drift hc.1 ha hb hlt]
          exact ⟨rfl, by simp [u]⟩
        · rw [request_of_full u .drift hc.1 ha hb hge]
          exact ⟨rfl, by simp [u]⟩
    · rw [if_neg hl]
      refine ⟨fun i hi => State.entry_setEntry_ne _ _ hi, rfl, rfl, fun hh => absurd hh nd, ?_⟩
      intro _ _ before score
      have e1 : score = sc := (driftAfter_eq op k _).symm.trans hs
      clear_value score
      subst e1
      exact ⟨fun _ => ⟨State.entry_setEntry_self _ _ _, rfl⟩, fun h' => absurd h' hl⟩
  · rw [if_neg hc]
    simp only [Bool.and_eq_true, trusted_iff, not_and] at hc
    exact ⟨fun _ _ => rfl, rfl, rfl, fun _ => ⟨rfl, rfl⟩, fun a b => absurd b (hc a)⟩

end Sys2Proof.Machine
end

