-- ==== Sys2Proof/Laws/Looks.lean ====
section
/-! SUPPORT. When no look is owed (State.LookInv): after every look and every ending, and wherever nothing has become
eligible that was not. -/

namespace Sys2Proof.Machine

variable {s t : State}

/-- No look is owed exactly when an IDLE engine that may look finds no eligible record (R48, R49). -/
theorem lookInv_iff : s.LookInv ↔
    (s.active = true → s.holdOn = false → s.engine = none → ∀ r ∈ s.queue, s.eligible r = false) := by
  unfold State.LookInv State.eligible
  constructor <;> intro h a b c r hr <;> have := h a b c r hr <;> revert this <;>
    cases s.settled (unitOf r.entry) <;> cases s.wedgedOn (unitOf r.entry) <;> cases s.plan.inScope r.entry <;> simp

/-- A running sweep owes no look. -/
theorem lookInv_of_running {c : Context} (h : s.engine = some c) : s.LookInv := fun _ _ h' => by simp [h] at h'

theorem takeRecord_running (s : State) (b : Bool) (r : QueueRec) : ∃ c, (s.takeRecord b r).engine = some c := by
  unfold State.takeRecord
  obtain ⟨_, _, h⟩ := reoffer_frame (({ s with
    engine := some (s.buildContext r)
    queue := s.queue.erase r
    swmark := s.swmarkStart b
    blink := some ⟨true, s.now + Config.blinkHalf⟩ } : State).setEntry r.entry
      { s.entry r.entry with state := .measuring, candidate := none })
  exact ⟨_, congrArg State.engine h⟩

/-- A look leaves none owed (R49). -/
theorem look_lookInv (s : State) (b : Bool) : (s.look b).LookInv := by
  rcases look_cases s b with h | ⟨r, _, _, _, _, h⟩
  · rw [h, lookInv_iff]
    intro ha hh he r hr
    unfold State.look at h
    rw [if_pos (by simp [ha, hh, he])] at h
    split at h
    · obtain ⟨c, hc⟩ := takeRecord_running s b _
      rw [h, he] at hc
      cases hc
    · next hf => simpa using List.find?_eq_none.1 hf r hr
  · rw [h]
    exact lookInv_of_running (takeRecord_running s b r).choose_spec

/-- An ending looks (R86 step 7). -/
theorem endSweep_lookInv (g : Ending) (h : s.LookInv) : (s.endSweep g).LookInv := by
  unfold State.endSweep
  split
  · exact h
  · exact look_lookInv _ _

/-- Where nothing becomes eligible and the engine is not newly free to look, no look comes to be owed. -/
theorem lookInv_mono (h : s.LookInv) (ha : t.active = s.active) (hh : t.holdOn = false → s.holdOn = false)
    (he : t.engine = none → s.engine = none) (hq : t.queue = s.queue)
    (hs : ∀ u, t.settled u = true → s.settled u = true) (hw : ∀ u, t.wedgedOn u = false → s.wedgedOn u = false)
    (hp : t.plan = s.plan) : t.LookInv := by
  intro a b c r hr ⟨x, y, z⟩
  exact h (ha ▸ a) (hh b) (he c) r (hq ▸ hr) ⟨hs _ x, hw _ y, hp ▸ z⟩

end Sys2Proof.Machine
end

