-- ==== Sys2Proof/Laws/Plans.lean ====
section
/-! SUPPORT. The coherence tests in plain words (R162), what a judgement can give (R159 to R163), and what the pins show
(R26, R183, R184). -/

namespace Sys2Proof.Machine

/-! ### Coherence and judgement -/

/-- Some defined zone begins no higher than the zone before it (R162, ZONES). -/
def Plan.Unordered (p : Plan) : Prop :=
  ∃ z y : ZoneNo, y.val = z.val + 1 ∧ y.val < p.zoneCount ∧ (p.zones[y]).firstCylinder ≤ (p.zones[z]).firstCylinder

/-- Some defined zone's test cylinder lies outside the zone (R162, TESTCYL). -/
def Plan.Strays (p : Plan) : Prop :=
  ∃ z : ZoneNo, z.val < p.zoneCount ∧ ((p.zones[z]).testCylinder < (p.zones[z]).firstCylinder ∨
    ∃ y : ZoneNo, y.val = z.val + 1 ∧ y.val < p.zoneCount ∧ (p.zones[y]).firstCylinder ≤ (p.zones[z]).testCylinder)

theorem ascends_iff (p : Plan) : p.definedZones.all p.zoneAscends = true ↔ ¬ p.Unordered := by
  simp only [Plan.definedZones, allZones, List.all_eq_true, List.mem_filter, List.mem_finRange, true_and,
    decide_eq_true_eq, Plan.zoneAscends, Bool.or_eq_true, Bool.not_eq_true', decide_eq_false_iff_not, forall_const,
    Plan.Unordered, not_exists, not_and, not_le]
  exact ⟨fun h z y hy hc => (h y hc z).resolve_left fun hn => hn hy.symm,
    fun h y hc z => if hz : z.val + 1 = y.val then .inr (h z y hz.symm hc) else .inl hz⟩

theorem inZone_iff (p : Plan) : p.definedZones.all p.testInZone = true ↔ ¬ p.Strays := by
  simp only [Plan.definedZones, allZones, List.all_eq_true, List.mem_filter, List.mem_finRange, true_and,
    decide_eq_true_eq, Plan.testInZone, Bool.and_eq_true, Bool.or_eq_true, Bool.not_eq_true',
    decide_eq_false_iff_not, Plan.Strays, not_exists, not_and, not_or, not_lt, not_le]
  exact ⟨fun h z hz => ⟨(h z hz).1, fun y hy hc => ((h z hz).2 y hc).resolve_left fun hn => hn hy⟩,
    fun h z hz => ⟨(h z hz).1, fun y hc => if hy : y.val = z.val + 1 then .inr ((h z hz).2 y hy hc) else .inl hy⟩⟩

/-- The coherence tests in their order, the first that fails deciding (R162). -/
theorem incoherence_cases (p : Plan) :
    (p.zoneCount = 0 ∨ 4 < p.zoneCount → p.incoherence = some .count) ∧
    (1 ≤ p.zoneCount → p.zoneCount ≤ 4 →
      (p.Unordered → p.incoherence = some .zones) ∧
      (¬ p.Unordered → p.Strays → p.incoherence = some .testcyl) ∧
      (¬ p.Unordered → ¬ p.Strays → p.offset2 < p.offset1 → p.incoherence = some .range) ∧
      (¬ p.Unordered → ¬ p.Strays → p.offset1 ≤ p.offset2 → p.incoherence = none)) := by
  unfold Plan.incoherence
  refine ⟨fun h => if_pos h, fun h1 h4 => ?_⟩
  rw [if_neg (by omega)]
  have ha := ascends_iff p
  have hi := inZone_iff p
  refine ⟨fun h => ?_, fun h k => ?_, fun h k r => ?_, fun h k r => ?_⟩
  · rw [if_pos]; simpa [h] using ha
  · rw [if_neg (by simp [ha.2 h]), if_pos]; simpa [k] using hi
  · rw [if_neg (by simp [ha.2 h]), if_neg (by simp [hi.2 k]), if_pos r]
  · rw [if_neg (by simp [ha.2 h]), if_neg (by simp [hi.2 k]), if_neg (by omega)]

/-- A plan that passes the coherence tests (R162). -/
theorem coherent_iff (p : Plan) : p.incoherence = none ↔
    1 ≤ p.zoneCount ∧ p.zoneCount ≤ 4 ∧ ¬ p.Unordered ∧ ¬ p.Strays ∧ p.offset1 ≤ p.offset2 := by
  obtain ⟨hc, hr⟩ := incoherence_cases p
  constructor
  · intro h
    have h1 : 1 ≤ p.zoneCount ∧ p.zoneCount ≤ 4 := by
      by_contra hn
      rw [hc (by omega)] at h
      cases h
    obtain ⟨hz, ht, ho, -⟩ := hr h1.1 h1.2
    have hu : ¬ p.Unordered := fun k => by rw [hz k] at h; cases h
    have hs : ¬ p.Strays := fun k => by rw [ht hu k] at h; cases h
    exact ⟨h1.1, h1.2, hu, hs, not_lt.1 fun k => by rw [ho hu hs k] at h; cases h⟩
  · rintro ⟨h1, h4, hu, hs, ho⟩
    exact (hr h1 h4).2.2.2 hu hs ho

/-- What a judgement can give (R159 to R163). -/
theorem judge_cases (b : List Byte) :
    (¬ (wordAt b 0 = 22600 ∧ wordAt b 2 = 16724) → judge b = .ignored) ∧
    (wordAt b 0 = 22600 ∧ wordAt b 2 = 16724 →
      (wordSum b % 65536 ≠ 0 → judge b = .refused (wordAt b 4) .check) ∧
      (wordSum b % 65536 = 0 →
        (∀ c, (parsePlan b).clamp.incoherence = some c → judge b = .refused (wordAt b 4) c) ∧
        ((parsePlan b).clamp.incoherence = none →
          judge b = .taken (parsePlan b).clamp (parsePlan b).isClamped))) := by
  unfold judge
  constructor
  · intro h
    rw [if_pos]
    by_contra hn
    exact h ⟨not_not.1 fun k => hn (.inl k), not_not.1 fun k => hn (.inr k)⟩
  · rintro ⟨h0, h2⟩
    rw [if_neg (by simp [h0, h2, Config.planSignature])]
    refine ⟨fun h => if_pos h, fun h => ?_⟩
    rw [if_neg (by simpa using h)]
    exact ⟨fun c hc => by simp only [hc]; rfl, fun hc => by simp only [hc]⟩

/-! ### The pins -/

variable (s : State)

theorem mem_scopeEntries (u : UnitNo) (i : EntryNo) :
    i ∈ s.scopeEntries u ↔ unitOf i = u ∧ s.plan.inScope i = true := by
  simp [State.scopeEntries, mem_allEntries]

/-- The lamps' steady value (R183). -/
theorem steadyReady_iff (u : UnitNo) : s.steadyReady u = true ↔
    (∃ i, unitOf i = u ∧ s.plan.inScope i = true) ∧
      ∀ i, unitOf i = u → s.plan.inScope i = true → (s.entry i).state = .valid := by
  simp only [State.steadyReady, Bool.and_eq_true, Bool.not_eq_true', List.isEmpty_eq_false_iff_exists_mem,
    List.all_eq_true, mem_scopeEntries, decide_eq_true_eq, and_imp]

/-- What the rule of the READY lamp gives (R183). -/
theorem readyLampRule_iff (u : UnitNo) : s.readyLampRule u = true ↔ s.interval = false ∧
    ((∃ c b, s.engine = some c ∧ unitOf c.subject = u ∧ s.blink = some b ∧ b.lit = true) ∨
      (∀ c, s.engine = some c → unitOf c.subject ≠ u) ∧ (∃ i, unitOf i = u ∧ s.plan.inScope i = true) ∧
        ∀ i, unitOf i = u → s.plan.inScope i = true → (s.entry i).state = .valid) := by
  rw [← steadyReady_iff]
  unfold State.readyLampRule State.sweepOn
  cases s.interval <;> cases s.engine <;> simp
  split <;> cases s.blink <;> simp_all

/-- What the rule of the FAULT lamp gives (R184). -/
theorem faultLampRule_iff (u : UnitNo) : s.faultLampRule u = true ↔ s.interval = false ∧
    ((∃ i, unitOf i = u ∧ s.plan.inScope i = true ∧ (s.entry i).state = .failed) ∨
      ∃ l, s.port.state = .wedged u l) := by
  have h : s.wedgedOn u = true ↔ ∃ l, s.port.state = .wedged u l := by
    unfold State.wedgedOn; split <;> simp_all
  simp only [State.faultLampRule, Bool.and_eq_true, Bool.not_eq_true', Bool.or_eq_true, List.any_eq_true,
    mem_scopeEntries, decide_eq_true_eq, h, and_assoc]

/-- The pins that every command drives are the ones the rules describe, while the blink runs with the sweep. -/
theorem drivePins_inv (h : s.blink.isSome ↔ s.engine.isSome) : s.drivePins.PinsInv where
  ready := by
    show s.benchReady = true ↔ _
    simp [State.benchReady, and_assoc]
  readyLamp := by
    intro u
    refine Iff.trans ?_ (readyLampRule_iff s u)
    fin_cases u <;> rfl
  faultLamp := by
    intro u
    refine Iff.trans ?_ (faultLampRule_iff s u)
    fin_cases u <;> rfl
  blinkWhileSweeping := h

end Sys2Proof.Machine
end

