-- ==== Sys2Proof/Laws/Requests.lean ====
section
/-! SUPPORT. What a run of tail requests made in map order does, said once (R16, R17, R18, R44): each entry that asks
changes its state as the event says, the queue takes the records that are heard until it is full, and the rest are
marked wanted. -/

namespace Sys2Proof.Machine

/-- Entry `i` takes the state `g` and asks with the cause when `p` says so of the plan in force and of the entry. -/
def State.askIf (p : Plan → EntryNo → Entry → Bool) (g : Entry → EntryState) (cause : Cause) (s : State) (i : EntryNo) :
    State :=
  if p s.plan i (s.entry i) then (s.setEntry i { s.entry i with state := g (s.entry i) }).request i cause else s

/-- Whether entry `i` asks and its request is heard: not the subject's, not a duplicate (R44). -/
def State.hears (s : State) (p : Plan → EntryNo → Entry → Bool) (i : EntryNo) : Bool :=
  p s.plan i (s.entry i) && !s.isSubject i && !s.isQueued i

/-- One step: the queue and the entry by whether the request is heard and whether there is room (R44). -/
theorem askIf_step (p : Plan → EntryNo → Entry → Bool) (g : Entry → EntryState)
    (hp : ∀ pl i e, p pl i e = true → pl.inScope i = true) (cause : Cause) (s : State) (a : EntryNo) :
    let t := s.askIf p g cause a
    let changed := { s.entry a with state := if p s.plan a (s.entry a) = true then g (s.entry a) else (s.entry a).state }
    SameButQueue s t ∧ (∀ i, i ≠ a → t.entry i = s.entry i) ∧
      (s.hears p a = false → t.queue = s.queue ∧ t.entry a = changed) ∧
      (s.hears p a = true → s.queue.length < 16 →
        t.queue = s.queue ++ [⟨a, cause⟩] ∧ t.entry a = { changed with wanted := none }) ∧
      (s.hears p a = true → 16 ≤ s.queue.length → t.queue = s.queue ∧ t.entry a = { changed with wanted := some cause }) := by
  unfold State.askIf State.hears
  by_cases h : p s.plan a (s.entry a) = true
  · simp only [h, if_true, Bool.true_and]
    generalize hx : s.setEntry a { s.entry a with state := g (s.entry a) } = x
    have hxe : ∀ i, i ≠ a → x.entry i = s.entry i := fun i hi => by rw [← hx, State.entry_setEntry_ne _ _ hi]
    have hxa : x.entry a = { s.entry a with state := g (s.entry a) } := by rw [← hx, State.entry_setEntry_self]
    have hxq : x.queue = s.queue := by rw [← hx]; rfl
    have hsc : x.plan.inScope a = true := by rw [← hx]; exact hp _ _ _ h
    have hsj : x.isSubject a = s.isSubject a := by rw [← hx]; rfl
    have hqd : x.isQueued a = s.isQueued a := by rw [← hx]; rfl
    have hfr : SameButQueue s (x.request a cause) := by
      rw [← hx]; exact (setEntry_frame s _ _).trans (request_frame _ _ _)
    refine ⟨hfr, ?_⟩
    by_cases hj : x.isSubject a = true
    · rw [request_of_subject x cause hj, ← hsj, hj]
      exact ⟨hxe, fun _ => ⟨hxq, hxa⟩, by simp, by simp⟩
    · have hj' : x.isSubject a = false := by simpa using hj
      by_cases hd : x.isQueued a = true
      · rw [request_of_queued x cause hd, ← hqd, hd]
        exact ⟨hxe, fun _ => ⟨hxq, hxa⟩, by simp, by simp⟩
      · have hd' : x.isQueued a = false := by simpa using hd
        rw [← hsj, hj', ← hqd, hd']
        by_cases hl : x.queue.length < 16
        · rw [request_of_room x cause hsc hj' hd' hl]
          refine ⟨fun i hi => (State.entry_setEntry_ne _ _ hi).trans (hxe i hi), by simp, fun _ _ => ?_, fun _ h16 => ?_⟩
          · exact ⟨congrArg (· ++ _) hxq, by rw [State.entry_setEntry_self, hxa]⟩
          · rw [hxq] at hl; omega
        · rw [request_of_full x cause hsc hj' hd' (Nat.not_lt.1 hl)]
          refine ⟨fun i hi => (State.entry_setEntry_ne _ _ hi).trans (hxe i hi), by simp, fun _ h16 => ?_, fun _ _ => ?_⟩
          · rw [hxq] at hl; exact absurd h16 hl
          · exact ⟨hxq, by rw [State.entry_setEntry_self, hxa]⟩
  · have h' : p s.plan a (s.entry a) = false := by simpa using h
    simp only [h', Bool.false_and, Bool.false_eq_true, if_false]
    exact ⟨.refl s, fun _ _ => trivial, fun _ => ⟨trivial, trivial⟩, by simp, by simp⟩

/-- The whole run: the heard requests, in order, fill the queue, and the rest are marked wanted (R44). -/
theorem foldl_askIf (p : Plan → EntryNo → Entry → Bool) (g : Entry → EntryState)
    (hp : ∀ pl i e, p pl i e = true → pl.inScope i = true) (cause : Cause) (l : List EntryNo) (hn : l.Nodup) (s : State) :
    let t := l.foldl (State.askIf p g cause) s
    let heard := l.filter (s.hears p)
    SameButQueue s t ∧
      t.queue = s.queue ++ (heard.take (16 - s.queue.length)).map (fun i => ⟨i, cause⟩) ∧
      ∀ i, t.entry i =
        { s.entry i with
          state := if i ∈ l ∧ p s.plan i (s.entry i) = true then g (s.entry i) else (s.entry i).state
          wanted := if i ∈ heard.drop (16 - s.queue.length) then some cause
            else if i ∈ heard then none else (s.entry i).wanted } := by
  induction l generalizing s with
  | nil => exact ⟨.refl s, by simp, fun i => by simp⟩
  | cons a l ih =>
    obtain ⟨ha, hl⟩ := List.nodup_cons.1 hn
    obtain ⟨h1, h2, h3, h4, h5⟩ := askIf_step p g hp cause s a
    generalize hs1 : s.askIf p g cause a = s1 at h1 h2 h3 h4 h5
    obtain ⟨k1, k2, k3⟩ := ih hl s1
    have hplan : s1.plan = s.plan := by obtain ⟨_, _, rfl⟩ := h1; rfl
    have hsub : ∀ i, s1.isSubject i = s.isSubject i := by obtain ⟨_, _, rfl⟩ := h1; exact fun _ => rfl
    have hne : ∀ i ∈ l, i ≠ a := fun i hi e => ha (e ▸ hi)
    have hque : ∀ i, i ≠ a → s1.isQueued i = s.isQueued i := by
      intro i hi
      unfold State.isQueued
      cases hh : s.hears p a with
      | false => rw [(h3 hh).1]
      | true =>
        by_cases h16 : s.queue.length < 16
        · rw [(h4 hh h16).1]; simp [hi.symm]
        · rw [(h5 hh (Nat.not_lt.1 h16)).1]
    have hheard : l.filter (s1.hears p) = l.filter (s.hears p) := List.filter_congr fun i hi => by
      unfold State.hears; rw [hplan, hsub, h2 i (hne i hi), hque i (hne i hi)]
    have hfa : a ∉ l.filter (s.hears p) := fun h => ha (List.mem_filter.1 h).1
    simp only [hheard, hplan] at k2 k3
    simp only [List.foldl_cons, hs1]
    have hsame : ∀ i ∈ l, s1.entry i = s.entry i := fun i hi => h2 i (hne i hi)
    refine ⟨h1.trans k1, ?_, ?_⟩
    · rw [k2]
      cases hh : s.hears p a with
      | false => simp [hh, (h3 hh).1]
      | true =>
        by_cases h16 : s.queue.length < 16
        · rw [(h4 hh h16).1, show 16 - s.queue.length = (16 - (s.queue ++ [(⟨a, cause⟩ : QueueRec)]).length) + 1 by
            simp; omega]
          simp [hh]
        · rw [(h5 hh (Nat.not_lt.1 h16)).1, show 16 - s.queue.length = 0 by omega]
          simp
    · intro i
      rw [k3 i]
      by_cases hi : i = a
      · subst hi
        have d1 : ∀ n, i ∉ (l.filter (s.hears p)).drop n := fun n h => hfa (List.mem_of_mem_drop h)
        simp only [ha, false_and, if_false, hfa, d1]
        cases hh : s.hears p i with
        | false =>
          rw [(h3 hh).2]
          simp [hh, hfa, d1]
        | true =>
          by_cases h16 : s.queue.length < 16
          · rw [(h4 hh h16).2, show 16 - s.queue.length = (15 - s.queue.length) + 1 by omega]
            simp [hh, d1]
          · rw [(h5 hh (Nat.not_lt.1 h16)).2, show 16 - s.queue.length = 0 by omega]
            simp [hh]
      · rw [h2 i hi]
        cases hh : s.hears p a with
        | false => simp [hh, (h3 hh).1, hi]
        | true =>
          by_cases h16 : s.queue.length < 16
          · rw [(h4 hh h16).1, show 16 - s.queue.length = (16 - (s.queue ++ [(⟨a, cause⟩ : QueueRec)]).length) + 1 by
              simp; omega]
            simp [hh, hi]
          · rw [(h5 hh (Nat.not_lt.1 h16)).1, show 16 - s.queue.length = 0 by omega]
            simp [hh, hi]

/-- The age test of one entry as a request (R16). -/
theorem testAge_eq : State.testAge = State.askIf
    (fun pl i e => decide (pl.maxAge ≠ 0 ∧ pl.maxAge ≤ e.age) && (pl.inScope i && e.trusted)) (fun _ => .stale) .age := by
  funext s i
  unfold State.testAge State.askIf State.goStale
  by_cases h : s.plan.maxAge ≠ 0 ∧ s.plan.maxAge ≤ (s.entry i).age <;> simp [h]

/-- The staleness of one entry as a request (R17). -/
theorem goStale_eq (cause : Cause) :
    State.goStale cause = State.askIf (fun pl i e => pl.inScope i && e.trusted) (fun _ => .stale) cause := by
  funext s i; rfl

/-- QUEUE ALL for one entry as a request (R18). -/
theorem queueOne_eq : State.queueOne = State.askIf (fun pl i e => pl.inScope i && !decide (e.state = .measuring))
    (fun e => if e.state = .failed then .stale else e.state) .plan := by
  funext s i
  unfold State.queueOne State.askIf
  have h : ({ s.entry i with state := if (s.entry i).state = .failed then .stale else (s.entry i).state } : Entry) =
      if (s.entry i).state = .failed then { s.entry i with state := .stale } else s.entry i := by split <;> rfl
  simp only [h]

end Sys2Proof.Machine
end

