-- ==== Sys2Proof/Laws/Sectors.lean ====
section
/-! SUPPORT. The bytes of a sector: fields read back (R177), and where the parts of a report sector stand (R179 to
R181). -/

namespace Sys2Proof.Machine

/-! ### Fields -/

theorem toNat_byte (n : Nat) : (byte n).toNat = n % 256 := by simp [byte]

theorem le16_value (n : Nat) : (byte n).toNat + 256 * (byte (n / 256)).toNat = n % 65536 := by
  simp only [toNat_byte]; omega

theorem le32_value (n : Nat) : (byte n).toNat + 256 * (byte (n / 256)).toNat +
    65536 * ((byte (n / 65536)).toNat + 256 * (byte (n / 65536 / 256)).toNat) = n % 4294967296 := by
  simp only [toNat_byte]; omega

theorem signedByte_value (i : Int) : ((signedByte i).toNat : Int) = i % 256 := by
  unfold signedByte; rw [BitVec.toNat_ofInt, Int.toNat_of_nonneg (by omega)]; rfl

theorem signed16_value (i : Int) : (((BitVec.ofInt 16 i).toNat % 65536 : Nat) : Int) = i % 65536 := by
  have h : (BitVec.ofInt 16 i).toNat < 65536 := (BitVec.ofInt 16 i).isLt
  rw [Nat.mod_eq_of_lt h, BitVec.toNat_ofInt, Int.toNat_of_nonneg (by omega)]; rfl

/-! ### Places -/

theorem byteAt_append_left (a b : List Byte) (k : Nat) (h : k < a.length) : byteAt (a ++ b) k = byteAt a k := by
  unfold byteAt; simp [List.getD, List.getElem?_append_left h]

theorem byteAt_append_right (a b : List Byte) (k : Nat) : byteAt (a ++ b) (a.length + k) = byteAt b k := by
  unfold byteAt; simp [List.getD, List.getElem?_append_right]

theorem byteAt_past (a : List Byte) (k : Nat) (h : a.length ≤ k) : byteAt a k = 0 := by
  unfold byteAt; simp [List.getD, List.getElem?_eq_none h]

theorem byteAt_zeros (n k : Nat) : byteAt (zeros n) k = 0 := by
  unfold byteAt zeros
  simp only [List.getD, List.getElem?_replicate]
  split <;> rfl

theorem byteAt_padTo (n : Nat) (a : List Byte) (k : Nat) : byteAt (padTo n a) k = byteAt a k := by
  unfold padTo
  by_cases h : k < a.length
  · exact byteAt_append_left _ _ _ h
  · obtain ⟨j, rfl⟩ := Nat.exists_eq_add_of_le (Nat.not_lt.1 h)
    rw [byteAt_append_right, byteAt_zeros, byteAt_past _ _ (by omega)]

/-- Records of one length stand one after another. -/
theorem byteAt_flatMap {α : Type} (f : α → List Byte) (m : Nat) (hf : ∀ a, (f a).length = m) (l : List α) :
    ∀ (j r : Nat) (a : α), l[j]? = some a → r < m → byteAt (l.flatMap f) (m * j + r) = byteAt (f a) r := by
  induction l with
  | nil => simp
  | cons x l ih =>
    intro j r a h hr
    rw [List.flatMap_cons]
    cases j with
    | zero =>
      obtain rfl : x = a := by simpa using h
      rw [Nat.mul_zero, Nat.zero_add, byteAt_append_left _ _ _ (by rw [hf]; exact hr)]
    | succ j =>
      have e : m * (j + 1) + r = (f x).length + (m * j + r) := by rw [hf, Nat.mul_add]; omega
      rw [e, byteAt_append_right]
      exact ih j r a (by simpa using h) hr

theorem length_flatMap {α : Type} (f : α → List Byte) (m : Nat) (hf : ∀ a, (f a).length = m) (l : List α) :
    (l.flatMap f).length = m * l.length := by
  induction l with
  | nil => rfl
  | cons x l ih => rw [List.flatMap_cons, List.length_append, ih, hf, List.length_cons, Nat.mul_add]; omega

/-! ### Report sectors -/

theorem length_reportHead (number n t : Nat) : (reportHead number n t).length = 16 := rfl

theorem length_queueRecBytes (r : QueueRec) : (queueRecBytes r).length = 4 := rfl

theorem length_entryBytes (e : Entry) : (entryBytes e).length = 12 := rfl

theorem length_resultBytes (r : ResultRec) : (resultBytes r).length = 16 := by
  unfold resultBytes openingBytes; cases r.opening <;> rfl

theorem length_engineBlock (e : Option EngineView) : (engineBlock e).length = 8 := by cases e <;> rfl

variable (s : State)

/-- The head of a report sector stands in its first 16 bytes (R179). -/
theorem byteAt_reportSector_head {v : Snapshot} (h : s.snapshot = some v) (n k : Nat) (hk : k < 16) :
    byteAt (s.reportSector n) k = byteAt (reportHead s.snapNumber n v.timeBase) k := by
  unfold State.reportSector
  rw [h]
  exact (byteAt_padTo _ _ _).trans (byteAt_append_left _ _ _ (by rw [length_reportHead]; exact hk))

/-- What follows the head stands from byte 16 on (R172, R179). -/
theorem byteAt_reportSector_body {v : Snapshot} (h : s.snapshot = some v) (n k : Nat) :
    byteAt (s.reportSector n) (16 + k) = byteAt (reportBody v n) k := by
  unfold State.reportSector
  rw [h]
  exact (byteAt_padTo _ _ _).trans (byteAt_append_right (reportHead s.snapNumber n v.timeBase) _ k)

/-! ### Codes (R177) -/

theorem causeCode_eq (c : Option Cause) : optCode Cause.code c = causeCodes.idxOf c := by
  rcases c with _ | c <;> [rfl; (cases c <;> rfl)]

theorem outcomeCode_eq (c : Option SweepOutcome) : optCode SweepOutcome.code c = outcomeCodes.idxOf c := by
  rcases c with _ | c <;> [rfl; (cases c <;> rfl)]

theorem refusalCode_eq (c : Option RefusalCause) : optCode RefusalCause.code c = refusalCodes.idxOf c := by
  rcases c with _ | c <;> [rfl; (cases c <;> rfl)]

end Sys2Proof.Machine
end

