-- ==== Sys2Proof/Tests/Slice0.lean ====
section
/-! SUPPORT. The operand checks refuse ill-formed terms; a few of the spec's own examples; and for each statement with
hypotheses, a state and operands that meet them, clause by clause. -/

namespace Sys2Proof.Tests

open Sys2Proof.Machine

-- One test at a time: each kernel evaluation otherwise waits in a thread of its own.
set_option Elab.async false

/-! ### Operand checks (R28, R37) -/

def okTask : TaskFields := { unit := 0 }

def okGood : Completion := { status := .good, last := ⟨0, 0, 1⟩ }

theorem test_wellFormed_accepts :
    okTask.wellFormed = true ∧ okGood.wellFormed = true ∧
    ({ okTask with cylinder := 65535, sector := 255, linear := 268435455, count := 256, offset := -128 }).wellFormed ∧
    ({ okGood with status := .error .data, remaining := 256, last := ⟨65535, 255, 255⟩ }).wellFormed ∧
    (Instr.comparatorSector 0 (List.replicate 520 0)).wellFormed ∧
    (Instr.benchWriteSector 0 (List.replicate 512 0)).wellFormed := by decide +kernel

theorem test_wellFormed_refuses_cylinder : (Instr.read 0 { okTask with cylinder := 65536 }).wellFormed = false := by decide
theorem test_wellFormed_refuses_sector : (Instr.read 0 { okTask with sector := 0 }).wellFormed = false ∧
    (Instr.read 0 { okTask with sector := 256 }).wellFormed = false := by decide
theorem test_wellFormed_refuses_linear : (Instr.read 0 { okTask with linear := 268435456 }).wellFormed = false := by
  decide
theorem test_wellFormed_refuses_count : (Instr.write 0 { okTask with count := 0 }).wellFormed = false ∧
    (Instr.write 0 { okTask with count := 257 }).wellFormed = false := by decide
theorem test_wellFormed_refuses_offset : (Instr.read 0 { okTask with offset := -129 }).wellFormed = false ∧
    (Instr.read 0 { okTask with offset := 128 }).wellFormed = false := by decide
theorem test_wellFormed_refuses_geometry : (Instr.setGeometry 0 { okTask with headsOperand := 256 }).wellFormed = false ∧
    (Instr.setGeometry 0 { okTask with sectorsOperand := 256 }).wellFormed = false := by decide
theorem test_wellFormed_refuses_option : (Instr.setOption 0 { okTask with optionCode := 256 }).wellFormed = false ∧
    (Instr.setOption 0 { okTask with optionValue := 256 }).wellFormed = false := by decide
theorem test_wellFormed_refuses_remaining :
    (Instr.pieceCompletion 0 ⟨{ okGood with status := .error .data, remaining := 257 }, false⟩).wellFormed = false ∧
    (Instr.pieceCompletion 0 ⟨{ okGood with remaining := 1 }, true⟩).wellFormed = false := by decide
theorem test_wellFormed_refuses_last :
    (Instr.layCompletion 0 { okGood with last := ⟨65536, 0, 1⟩ }).wellFormed = false ∧
    (Instr.layCompletion 0 { okGood with last := ⟨0, 256, 1⟩ }).wellFormed = false ∧
    (Instr.layCompletion 0 { okGood with last := ⟨0, 0, 0⟩ }).wellFormed = false ∧
    (Instr.layCompletion 0 { okGood with last := ⟨0, 0, 256⟩ }).wellFormed = false := by decide
theorem test_wellFormed_refuses_driveSector :
    (Instr.driveSectorDelivered 0 (List.replicate 511 0)).wellFormed = false := by decide +kernel
theorem test_wellFormed_refuses_comparatorSector :
    (Instr.comparatorSector 0 (List.replicate 512 0)).wellFormed = false := by decide +kernel
theorem test_wellFormed_refuses_benchSector :
    (Instr.benchWriteSector 0 (List.replicate 520 0)).wellFormed = false := by decide +kernel

/-! ### The spec's worked fits, choices and walks (chapter 4, sections 4.10 to 4.14; chapter 3, section 3.7) -/

/-- The sweep context of chapter 3, section 3.7. -/
def ctx : Context where
  phase := .sweeping
  subject := 9
  cause := .drift
  priorState := .stale
  priorCentre := some (-1)
  priorCandidate := none
  testCylinder := 1200
  firstSector := 20
  sectorCount := 2
  offset1 := -8
  offset2 := 8
  step := 4
  points := 5
  order := .centreOut
  mirror := true
  passes := 2
  threshold := 64
  minWidth := 4
  maxMove := 8
  pattern := 3
  taskTimeout := 50
  pass := 1
  position := 0
  sums := [0, 0, 0, 0, 0]
  flight := none

theorem test_fit_of_section_4_12 : ({ ctx with sums := [620, 68, 11, 32, 4446] }).fit =
    .found ⟨-20, 3, -2, 23, .none, .valid⟩ .committed := by decide +kernel

theorem test_fit_of_section_4_10 :
    ({ ctx with
        priorCentre := some 1, sectorCount := 4, offset1 := -20, passes := 1, threshold := 8, minWidth := 6
        sums := [16384, 7000, 1500, 260, 36, 14, 8, 10, 28, 200, 1100, 6100, 16384] }).fit =
      .found ⟨-3, 37, 4, 40, .none, .valid⟩ .committed := by decide +kernel

theorem test_fit_of_section_4_11 :
    ({ ctx with
        priorCentre := some 5, priorState := .valid, sectorCount := 1, offset1 := -12, threshold := 32
        sums := [8192, 3000, 400, 60, 20, 10, 12] }).fit =
      .found ⟨11, 48, 7, 37, .high, .marginal⟩ .marginal := by decide +kernel

theorem test_ties_of_section_4_13 :
    chooseRun (-16) 4 0 [(0, 1), (5, 6)] = some (5, 6) ∧ chooseRun (-16) 4 (-11) [(0, 1), (5, 6)] = some (0, 1) ∧
    chooseRun (-8) 4 0 [(0, 1), (3, 4)] = some (0, 1) ∧ chooseRun (-6) 3 (-2) [(0, 1), (3, 4)] = some (0, 1) := by decide

theorem test_jumps_of_section_4_14 :
    jumpTest ⟨0, 0, -30, 0, .low, .marginal⟩ 8 .unmeasured none none = .marginal ∧
    jumpTest ⟨0, 0, 12, 0, .none, .valid⟩ 8 .valid (some 4) none = .committed ∧
    jumpTest ⟨0, 0, 13, 0, .none, .valid⟩ 8 .valid (some 4) none = .jump ∧
    jumpTest ⟨0, 0, 6, 0, .none, .valid⟩ 8 .suspect (some 4) (some 20) = .committed ∧
    jumpTest ⟨0, 0, 17, 0, .none, .marginal⟩ 8 .suspect (some 4) (some 20) = .confirmed ∧
    jumpTest ⟨0, 0, -10, 0, .none, .valid⟩ 8 .suspect (some 4) (some 20) = .failedJump ∧
    jumpTest ⟨0, 0, 9, 0, .none, .valid⟩ 8 .stale (some (-3)) none = .jump ∧
    jumpTest ⟨0, 0, 40, 0, .none, .valid⟩ 8 .stale none none = .committed := by decide

theorem test_walks_of_section_3_7 :
    passWalk .centreOut true 5 1 = [2, 3, 1, 4, 0] ∧ passWalk .centreOut true 5 2 = [0, 4, 1, 3, 2] := by decide

/-! ### The spec's dispositions and split read (chapter 6, sections 6.10 and 6.11) -/

/-- Zone 0 from cylinder 0, zone 1 from 1000 with its test sectors at 1200/20..21; unit 0 enabled, heads 0 to 3. -/
def zonedPlan : Plan :=
  { number := 20, unitMask := ⟨true, false⟩, headMask := ⟨15, 0⟩, zoneCount := 2
    zones := #v[⟨0, 300, 1, 16⟩, ⟨1000, 1200, 20, 2⟩, ⟨0, 0, 0, 0⟩, ⟨0, 0, 0, 0⟩] }

/-- The power-on interval over, service strap 1, unit 0 of 4 heads and 63 sectors, the plan above in force. -/
def ready : State :=
  { State.reset with
    interval := false
    straps := ⟨false, 1⟩
    geometry := ⟨some ⟨4, 63⟩, none⟩
    plan := zonedPlan
    pins := { benchReady := true } }

def at_ (u : UnitNo) (c : Nat) (h : HeadNo) (s n : Nat) : TaskFields :=
  { unit := u, cylinder := c, head := h, sector := s, count := n }

def lin (u : UnitNo) (a n : Nat) : TaskFields := { unit := u, addressing := .linear, linear := a, count := n }

def twoPieces : List Piece := [⟨⟨900, 3, 60⟩, 4, 12, true⟩, ⟨⟨901, 0, 1⟩, 6, 0, true⟩]

theorem test_read_dispositions_of_section_6_10 :
    ready.dispositionOf ⟨.read, at_ 0 256 0 3 4⟩ = (.localAnswer [3, 4, 5, 6], .localAnswers) ∧
    ready.dispositionOf ⟨.read, at_ 0 256 0 7 4⟩ = (.pass, .untranslated) ∧
    ready.dispositionOf ⟨.read, { at_ 0 1500 1 5 8 with offset := 20 }⟩ = (.pass, .passed) ∧
    ready.dispositionOf ⟨.read, lin 0 302400 10⟩ = (.apply 1, .applied) ∧
    ready.dispositionOf ⟨.read, at_ 0 900 3 60 10⟩ = (.split ⟨twoPieces, 0, 10, false⟩, .split) ∧
    ready.dispositionOf ⟨.read, at_ 1 50 2 1 4⟩ = (.pass, .passed) ∧
    ready.dispositionOf ⟨.read, lin 1 5000 4⟩ = (.pass, .untranslated) := by decide +kernel

theorem test_write_dispositions_of_section_6_10 :
    ready.dispositionOf ⟨.write, at_ 1 256 0 1 1⟩ = (.snoop 0, .passed) ∧
    ready.dispositionOf ⟨.write, at_ 0 1200 2 21 4⟩ = (.pass, .passed) ∧
    allEntries.filter (writeOverlaps zonedPlan (some ⟨4, 63⟩) (at_ 0 1200 2 21 4)) = [9] ∧
    allEntries.filter (writeOverlaps zonedPlan none (lin 1 0 1)) = allEntries.drop 64 := by decide +kernel

theorem test_merged_error_of_section_6_11 :
    mergedError ⟨[⟨⟨1200, 2, 40⟩, 24, 9, true⟩, ⟨⟨1200, 3, 1⟩, 63, 13, true⟩, ⟨⟨1201, 0, 1⟩, 63, 1, true⟩,
      ⟨⟨1201, 1, 1⟩, 20, 5, true⟩], 3, 20, true⟩ { status := .error .data, remaining := 23, last := ⟨1201, 0, 41⟩ } =
      { status := .error .data, corrected := true, remaining := 43, last := ⟨1201, 0, 41⟩ } := by decide

theorem test_drift_of_section_1_14 :
    driftAfter .read { okGood with corrected := true } 31 = 33 ∧ driftAfter .read okGood 24 = 23 ∧
    driftAfter .read { okGood with status := .error .data, remaining := 1 } 21 = 29 := by decide

/-! ### The spec's judgements (chapter 9, sections 9.6 and 9.7) -/

/-- The plan of section 9.6 as written. -/
def clampedByMany : Plan :=
  { zonedPlan with
    number := 12, actions := { queueAll := true }, step := 0, offset1 := -40, offset2 := 60, threshold := 5000
    passes := 6, settleCount := 1
    zones := #v[⟨7, 300, 1, 20⟩, ⟨1000, 1200, 20, 2⟩, ⟨0, 0, 0, 0⟩, ⟨0, 0, 0, 0⟩] }

theorem test_judgement_of_section_9_6 : judge (planSector clampedByMany) =
    .taken { zonedPlan with
      number := 12, actions := { queueAll := true }, step := 1, offset1 := -40, offset2 := 23, threshold := 4096
      passes := 4, settleCount := 2 } true := by decide +kernel

theorem test_judgements_of_section_9_7 :
    judge (zeros 512) = .ignored ∧
    judge ((planSector { zonedPlan with number := 13 }).set 20 255) = .refused 13 .check ∧
    judge (planSector { zonedPlan with number := 14, zoneCount := 5 }) = .refused 14 .count ∧
    judge (planSector { zonedPlan with
      number := 15, zoneCount := 3
      zones := #v[⟨0, 300, 1, 1⟩, ⟨800, 810, 1, 1⟩, ⟨800, 900, 1, 1⟩, ⟨0, 0, 0, 0⟩] }) = .refused 15 .zones ∧
    judge (planSector { zonedPlan with
      number := 16, zoneCount := 3
      zones := #v[⟨0, 300, 1, 1⟩, ⟨1000, 2500, 1, 1⟩, ⟨2400, 2450, 1, 1⟩, ⟨0, 0, 0, 0⟩] }) = .refused 16 .testcyl ∧
    judge (planSector { zonedPlan with number := 17, offset1 := 10, offset2 := -10, zoneCount := 0 }) =
      .refused 17 .count := by decide +kernel

/-! ### The spec's spindle table (chapter 8, section 8.9) -/

/-- The monitor after pulse 8 of section 8.9. -/
def pulse8 : Monitor :=
  { state := .spinningUp, lastPulse := some 100000, lastPeriod := some 8333, stable := 3, stopRemembered := true
    stopTimer := some 133332 }

theorem test_pulses_of_section_8_9 :
    pulse8.pulse 108500 4 =
      ({ pulse8 with lastPulse := some 108500, lastPeriod := some 8500, stable := 0, stopTimer := some 142500 }, .quiet) ∧
    pulse8.pulse 108334 4 =
      ({ pulse8 with
          state := .settled, lastPulse := some 108334, lastPeriod := some 8334, stable := 4
          stopTimer := some 141670 }, .settles) ∧
    pulse8.accepts 100300 = false := by decide

/-! ### Witnesses: states and operands that meet the hypotheses of each statement -/

/-- The hold condition on, by the HOLD line. -/
def held : State := { ready with holdLine := { rawLow := true, asserted := true } }

/-- A settled spindle at 8333 µs. -/
def settled : Monitor :=
  { state := .settled, lastPulse := some 100000, lastPeriod := some 8333, stable := 8, stopTimer := some 133332 }

/-- The entry under measurement in the sweep of `ctx`. -/
def subject9 : Entry := { state := .measuring, centre := some (-1), laid := true }

/-- The sweep of `ctx` running on unit 0, nothing in flight. -/
def sweeping : State :=
  { ready with
    monitors := ⟨settled, {}⟩
    engine := some ctx
    entries := State.reset.entries.set 9 subject9 }

/-- A point task of that sweep on the port: its last sector is still to come. -/
def inFlight : State :=
  { sweeping with
    engine := some { ctx with flight := some ⟨ctx.pointTask 2, .point 2, 1, 3⟩ }
    port := { state := .sweep 0 .running 700000 50, task := some ⟨ctx.pointTask 2, true⟩ } }

/-- The same with the hold condition on. -/
def inFlightHeld : State := { inFlight with holdLine := { rawLow := true, asserted := true } }

/-- The lay WRITE of that sweep on the port, hold on. -/
def layingHeld : State :=
  { inFlightHeld with
    engine := some { ctx with phase := .laying, flight := some ⟨ctx.layTask, .lay, 0, 0⟩ }
    port := { state := .sweep 0 .running 700000 50, task := some ⟨ctx.layTask, true⟩ } }

/-- A bench task of an op and disposition ISSUED to unit 0. -/
def issued (op : Op) (f : TaskFields) (d : Disposition) : State :=
  { ready with
    slot := some { task := ⟨op, f⟩, disp := d, phase := .issued }
    port := { state := .bench 0, task := some ⟨⟨op, f⟩, true⟩ } }

/-- The sweep of `ctx` asking for its next task while that task is ISSUED; the bench grace is `g` ms. -/
def asking (g : Nat) (op : Op) (f : TaskFields) (d : Disposition) : State :=
  { issued op f d with
    plan := { zonedPlan with benchGrace := g }
    monitors := ⟨settled, {}⟩
    engine := some ctx
    entries := State.reset.entries.set 9 subject9 }

theorem witness_StepRunsFrontCommand : State.reset.pending = [] := rfl

theorem witness_CommandsKeepQueueTimeAndStraps :
    (∃ s', exec (.holdLineChange 5 true) ready = .next s' ∧ stampOf (.holdLineChange 5 true) = some 5) ∧
    (∃ s', exec (.benchAbort { time := 5 }) inFlight = .next s') ∧ ∃ s', exec (.powerOn true 7) inFlight = .next s' :=
  ⟨⟨_, rfl, rfl⟩, ⟨_, rfl⟩, ⟨_, rfl⟩⟩

/-- A task of an op issued to a drive that does not show ready. -/
def unopenedTask (op : Op) (f : TaskFields) (d : Disposition) : State :=
  { issued op f d with port := { state := .bench 0, task := some ⟨⟨op, f⟩, false⟩ }, driveShows := ⟨.notReady, .ready⟩ }

/-- A WRITE issued to a unit with no drive attached. -/
def absentUnit : State :=
  { issued .write (at_ 0 5 0 1 8) .pass with driveShows := ⟨.absent, .ready⟩ }

/-- Nothing there; a TASK phase not opened; a unit with no drive attached. -/
theorem witness_OnlyTransfersStop :
    (exec (.benchTakesCompletion 5) ready = .fault .noBenchTransfer ∧ ready.slot = none ∧
      ready.port.state.isFree = true) ∧
    (∀ d, (unopenedTask .write (at_ 0 5 0 1 8) .pass).port.task = some d → d.opened = false) ∧
    ∀ d, absentUnit.port.task = some d → absentUnit.driveShows.get d.task.fields.unit = .absent :=
  ⟨⟨rfl, rfl, rfl⟩, by rintro d h; cases h; rfl, by rintro d h; cases h; rfl⟩

theorem witness_NothingReadyLeftUndone : ∃ s', exec (.read 5 (at_ 0 1500 1 5 8)) ready = .next s' := ⟨_, rfl⟩

/-- A record of the stopped unit 1 in front of two of the settled unit 0. -/
def waitingRecords : State :=
  { ready with
    plan := { zonedPlan with unitMask := ⟨true, true⟩, headMask := ⟨15, 15⟩ }
    monitors := ⟨settled, {}⟩
    queue := [⟨64, .plan⟩, ⟨1, .drift⟩, ⟨4, .plan⟩] }

theorem waitingRecords_port (s : State) (h : s.port = {}) (hs : s.slot = none) (he : s.engine = none) : s.PortInv where
  slotFits := by rintro b h; simp [hs] at h
  benchHolds := fun u => ⟨fun h' => (by simp [h] at h'), fun ⟨b, h', _⟩ => (by simp [hs] at h')⟩
  sweepHolds := by rintro c h'; simp [he] at h'
  runningHasSweep := by simp [h, PortState.runningTask]
  taskUnlessFree := by simp [h, PortState.isFree]
  graceRunRange := by simp [h]

/-- No look is owed with the records waiting: while hold is on, at the end of its debounce; while unit 0 spins up, at the
pulse that settles it. -/
theorem witness_NothingReadyLeftUndone_looks :
    let bounced : State :=
      { waitingRecords with holdLine := { rawLow := false, asserted := true, timer := some 20000 } }
    let spinsUp : State :=
      { waitingRecords with monitors := ⟨pulse8, {}⟩, plan := { waitingRecords.plan with settleCount := 4 } }
    (bounced.PortInv ∧ bounced.LookInv ∧ ∃ s', exec (.holdDebounceExpiry 20000) bounced = .next s') ∧
    (spinsUp.PortInv ∧ spinsUp.LookInv ∧ ∃ s', exec (.indexPulse 108333 0) spinsUp = .next s') :=
  ⟨⟨waitingRecords_port _ rfl rfl rfl, fun _ h => (by cases h), _, rfl⟩,
    waitingRecords_port _ rfl rfl rfl, fun _ _ _ => (by decide +kernel), _, rfl⟩

/-- `inFlight` with a command waiting, and a log whose next sequence number has wrapped. -/
def commanded : State :=
  { inFlight with
    pending := [.taskExpiry 700000]
    log := [⟨65535, 9, .plan, .noOpening, 5, none⟩]
    blink := some ⟨true, 600000⟩
    pins := { benchReady := true, readyLamp := ⟨true, false⟩ } }

theorem commanded_steps : ∃ s', step commanded = .next s' := ⟨_, rfl⟩

theorem witness_StepKeepsPins : commanded.PinsInv ∧ ∃ s', step commanded = .next s' :=
  ⟨by
    have h : commanded = commanded.drivePins := by
      rw [State.drivePins, show commanded.pinsRule = commanded.pins by decide +kernel]
    rw [h]
    exact drivePins_inv commanded (by decide), commanded_steps⟩

theorem witness_StepKeepsQueue : commanded.QueueInv ∧ ∃ s', step commanded = .next s' :=
  ⟨{ atMost16 := by decide
     oneEach := by decide
     wantedWhenFull := by decide +kernel
     subjectOut := by rintro c h; cases h; decide +kernel }, commanded_steps⟩

theorem commanded_entry (i : EntryNo) : commanded.entry i = if i = 9 then subject9 else {} := by
  revert i; decide +kernel

theorem witness_StepKeepsMap : commanded.MapInv ∧ ∃ s', step commanded = .next s' := by
  refine ⟨{ entriesTied := ?_, measuringIffSubject := by decide +kernel, contextTied := ?_ }, commanded_steps⟩
  · intro i
    rw [commanded_entry]
    split <;> constructor <;> decide
  · rintro c h
    cases h
    constructor <;> decide +kernel

theorem witness_StepKeepsHistory : commanded.HistoryInv ∧ ∃ s', step commanded = .next s' :=
  ⟨{ atMost30 := by decide
     successive := by
       intro k h
       have : k = 0 := Nat.lt_one_iff.1 h
       subst this
       rfl
     snapRange := by decide
     emptySnapshot := by decide }, commanded_steps⟩

theorem witness_StepKeepsPort : commanded.PortInv ∧ ∃ s', step commanded = .next s' :=
  ⟨{ slotFits := by rintro b h; cases h
     benchHolds := fun u => ⟨fun h => (by cases h), fun ⟨b, h, _⟩ => (by cases h)⟩
     sweepHolds := by rintro c h; cases h; decide
     runningHasSweep := by decide
     taskUnlessFree := by decide
     graceRunRange := by decide }, commanded_steps⟩

theorem zonedPlan_ok : zonedPlan.Ok := by
  constructor
  case rows => intro z; fin_cases z <;> (unfold ZoneRow.InRange; decide)
  case ascending => intro z y; fin_cases z <;> fin_cases y <;> decide
  case testInZone =>
    intro z
    fin_cases z <;> (intro h; refine ⟨by revert h; decide, fun y => ?_⟩; fin_cases y <;> (revert h; decide))
  all_goals decide +kernel

theorem witness_StepKeepsPlan : commanded.PlanInv ∧ ∃ s', step commanded = .next s' := ⟨zonedPlan_ok, commanded_steps⟩

theorem witness_StepKeepsSpindle : commanded.SpindleInv ∧ ∃ s', step commanded = .next s' := by
  refine ⟨{ tied := ?_, sweepSettled := by rintro c h; cases h; decide }, commanded_steps⟩
  intro u
  fin_cases u <;> constructor <;> simp [commanded, inFlight, sweeping, settled, PerUnit.get]

/-- The interval's last microsecond and its end. -/
theorem witness_PowerOnAndItsInterval : State.reset.resting = true ∧ max State.reset.now 199999 < 200000 ∧
    ¬ max State.reset.now 200000 < 200000 := by decide

theorem witness_TaskWaitsItsTurn :
    (State.reset.benchReady = false ∧ State.reset.benchAsks = none ∧ State.reset.engineQuiet = true) ∧
    (inFlight.benchReady = true ∧ inFlight.presented = [] ∧ inFlight.port.state.isFree = false ∧
      inFlight.dispositionOf ⟨.spinUp, okTask⟩ = (.pass, .passed) ∧ ∀ l, Disposition.pass ≠ .localAnswer l) :=
  ⟨by decide, by decide, by decide, by decide, by decide +kernel, by intro l; simp⟩

/-- TRANSPARENT mode. -/
def transparent : State := { ready with straps := ⟨true, 1⟩ }

/-- One case of each disjunct: an op of R108, TRANSPARENT mode, and the lowest offset of its own with a count of 1 next to
the service area; the port FREE with and without a grace. -/
theorem witness_PassedOpIsIssuedUnaltered :
    (ready.benchReady = true ∧ ready.presented = [] ∧ ready.port.state = .free none ∧
      Op.identify ∈ [Op.seek, .home, .setGeometry, .setOption, .spinUp, .powerQuery, .identify]) ∧
    (transparent.active = false ∧ Op.write ≠ .spinDown ∧ transparent.benchReady = true ∧ transparent.presented = [] ∧
      ({ transparent with port := { state := .free (some 9) } } : State).port.state = .free (some 9)) ∧
    (ready.active = true ∧ Op.verify ∈ [Op.read, .readRaw, .verify] ∧
      ({ at_ 0 256 0 9 1 with offset := -128 }).count = 1 ∧
      locate (ready.geometry.get 0) { at_ 0 256 0 9 1 with offset := -128 } 1 = some [⟨256, 0, 9⟩] ∧
      ∀ c ∈ [(⟨256, 0, 9⟩ : Chs)],
        ¬ (c.cylinder = ready.straps.service.toNat * 256 ∧ c.head = 0 ∧ 1 ≤ c.sector ∧ c.sector ≤ 8)) := by
  decide +kernel

/-- Reads passed by tests 2, 4, 5 and 8 of R106. -/
theorem witness_PassedOpIsIssuedUnaltered_reads :
    ready.dispositionOf ⟨.read, at_ 0 256 0 8 2⟩ = (.pass, .untranslated) ∧
    ready.dispositionOf ⟨.verify, lin 1 5000 4⟩ = (.pass, .untranslated) ∧
    ready.dispositionOf ⟨.readRaw, at_ 1 50 2 1 1⟩ = (.pass, .passed) ∧
    ({ ready with plan := { zonedPlan with unitMask := ⟨false, false⟩ } }).dispositionOf ⟨.read, at_ 0 999 3 63 2⟩ =
      (.pass, .passed) := by decide +kernel

/-- A sweep on the other unit, the monitor in each of its kinds of state. -/
theorem witness_SpinDownTellsTheMonitor :
    sweeping.benchReady = true ∧ sweeping.presented = [] ∧ sweeping.port.state = .free none ∧
    (∀ c, sweeping.engine = some c → sweeping.active = false ∨ unitOf c.subject ≠ 1) ∧
    (sweeping.monitors.get 1).state = .unknown ∧ (sweeping.monitors.get 0).state = .settled :=
  ⟨by decide, by decide, by decide, by rintro c h; cases h; decide, by decide, by decide⟩

/-- A plan sector in second place of a write that starts at the end of the track before it, and a write beside a test
run. -/
theorem witness_WriteIsPassedOrSnooped :
    ready.active = true ∧ ready.benchReady = true ∧ ready.presented = [] ∧ ready.port.state = .free none ∧
    (∀ i, writeOverlaps ready.plan (ready.geometry.get 0) (at_ 0 255 3 63 2) i = false) ∧
    ((locate (ready.geometry.get 0) (at_ 0 255 3 63 2) 2).bind fun secs =>
      secs.findIdx? fun c => decide (c = ⟨ready.straps.service.toNat * 256, 0, 1⟩)) = some 1 ∧
    (∀ i, writeOverlaps ready.plan (ready.geometry.get 0) (at_ 0 1200 2 19 1) i = false) ∧
    ((locate (ready.geometry.get 0) (at_ 0 1200 2 19 1) 1).bind fun secs =>
      secs.findIdx? fun c => decide (c = ⟨ready.straps.service.toNat * 256, 0, 1⟩)) = none := by decide +kernel

/-- A write that ends on the last test sector, and one that cannot be located; a sweep it does not hit. -/
theorem witness_WriteClearsLaidOfOverlappedEntries :
    held.active = true ∧ held.benchReady = true ∧ held.presented = [] ∧ held.port.state = .free none ∧
    held.engine = none ∧ held.holdOn = true ∧
    locate (held.geometry.get 0) (at_ 0 1200 2 21 1) 1 = some [⟨1200, 2, 21⟩] ∧
    locate (held.geometry.get 1) (lin 1 0 1) 1 = none ∧
    (sweeping.engine = some ctx ∧ unitOf ctx.subject ≠ (lin 1 0 1).unit) := by decide +kernel

/-- The sweep of `ctx` between two tasks, hold on, its stop timer at 133332 and its last pulse at 100000. -/
def sweepingHeld : State := { sweeping with holdLine := { rawLow := true, asserted := true } }

/-- Entry 9 without its pattern, the write counted. -/
def patternLost (s : State) : State :=
  { s with
    counters := { s.counters with passed := s.counters.passed + 1 }
    entries := s.entries.set 9 { s.entry 9 with laid := false } }

/-- The same write hits the subject of the running sweep and no other entry, with the hold condition on and off. -/
theorem witness_WriteClearsLaidOfOverlappedEntries_running :
    ∀ s ∈ [sweeping, sweepingHeld],
      (s.active = true ∧ s.benchReady = true ∧ s.presented = [] ∧ s.port.state = .free none ∧ s.engine = some ctx ∧
        s.queue.length < 16 ∧ s.settled (unitOf ctx.subject) = true ∧ s.plan.inScope ctx.subject = true ∧
        locate (s.geometry.get 0) (at_ 0 1200 2 21 1) 1 = some [⟨1200, 2, 21⟩]) ∧
      (∀ i : EntryNo, (unitOf i = 0 ∧ (⟨1200, 2, 21⟩ : Chs).head = (headOf i).val ∧
          (zoneOf i).val < s.plan.zoneCount ∧ (1200 : Nat) = (s.plan.zones[zoneOf i]).testCylinder ∧
          (s.plan.zones[zoneOf i]).firstSector ≤ 21 ∧
          21 < (s.plan.zones[zoneOf i]).firstSector + (s.plan.zones[zoneOf i]).sectorCount) ↔ i = 9) ∧
      (∀ i : EntryNo, (s.entry i).wanted = none ∧
        (patternLost s).entry i = if i = 9 then { s.entry i with laid := false } else s.entry i) ∧
      sweeping.holdOn = false ∧ sweepingHeld.holdOn = true := by decide +kernel

/-- All eight tests: the whole service area, one sector past it, an offset of its own, an address that cannot be located,
one entry in and out of scope, two entries with one and with none in scope. -/
theorem witness_ReadDispositionByTheEightTests :
    ready.active = true ∧
    locate (ready.geometry.get 0) (at_ 0 256 0 1 8) 8 = some ((List.range 8).map fun i => ⟨256, 0, i + 1⟩) ∧
    locate (ready.geometry.get 0) (at_ 0 256 0 8 2) 2 = some [⟨256, 0, 8⟩, ⟨256, 0, 9⟩] ∧
    locate (ready.geometry.get 0) (at_ 0 1500 1 5 1) 1 = some [⟨1500, 1, 5⟩] ∧
    locate (ready.geometry.get 1) (lin 1 5000 4) 4 = none ∧
    ready.plan.inScope (ready.plan.entryOfSector 0 ⟨1500, 1, 5⟩) = true ∧
    locate (ready.geometry.get 1) (at_ 1 50 2 1 1) 1 = some [⟨50, 2, 1⟩] ∧
    ready.plan.inScope (ready.plan.entryOfSector 1 ⟨50, 2, 1⟩) = false ∧
    locate (ready.geometry.get 0) (at_ 0 999 3 63 2) 2 = some [⟨999, 3, 63⟩, ⟨1000, 0, 1⟩] ∧
    ready.plan.entryOfSector 0 ⟨999, 3, 63⟩ ≠ ready.plan.entryOfSector 0 ⟨1000, 0, 1⟩ ∧
    ready.plan.inScope (ready.plan.entryOfSector 0 ⟨1000, 0, 1⟩) = true ∧
    ({ zonedPlan with unitMask := ⟨false, false⟩ }).inScope (zonedPlan.entryOfSector 0 ⟨999, 3, 63⟩) = false ∧
    ({ zonedPlan with unitMask := ⟨false, false⟩ }).inScope (zonedPlan.entryOfSector 0 ⟨1000, 0, 1⟩) = false := by
  decide +kernel

/-- The last sector of a track, the last of a cylinder; an address above cylinder 65535; cylinders on either side of a zone's
first; a zone count of 1 and of 4. -/
theorem witness_ReadDispositionByTheEightTests_addresses :
    1 ≤ (⟨4, 63⟩ : Geometry).sectors ∧ (⟨4, 63⟩ : Geometry).ofLinear 62 = ⟨0, 0, 63⟩ ∧
    (⟨4, 63⟩ : Geometry).ofLinear 63 = ⟨0, 1, 1⟩ ∧ (⟨4, 63⟩ : Geometry).ofLinear 251 = ⟨0, 3, 63⟩ ∧
    (⟨4, 63⟩ : Geometry).ofLinear 252 = ⟨1, 0, 1⟩ ∧
    locate (some ⟨4, 63⟩) (lin 0 (65536 * 252 - 1) 1) 1 = some [⟨65535, 3, 63⟩] ∧
    locate (some ⟨4, 63⟩) (lin 0 (65536 * 252 - 1) 2) 2 = none ∧
    locate (some ⟨4, 63⟩) (at_ 0 5 4 1 1) 1 = none ∧ locate (some ⟨4, 63⟩) (at_ 0 5 3 64 1) 1 = none ∧
    locate none (at_ 0 5 4 254 3) 3 = some [⟨5, 4, 254⟩, ⟨5, 4, 255⟩, ⟨5, 4, 255⟩] ∧
    1 ≤ zonedPlan.zoneCount ∧ (zonedPlan.zones[0]).firstCylinder = 0 ∧ zonedPlan.zoneOfCylinder 999 = 0 ∧
    zonedPlan.zoneOfCylinder 1000 = 1 ∧ ({ zonedPlan with zoneCount := 1 }).zoneOfCylinder 65535 = 0 := by
  decide +kernel

theorem witness_ApplyCarriesTheCentre :
    ready.dispositionOf ⟨.verify, lin 0 302400 10⟩ = (.apply 1, .applied) ∧ ready.benchReady = true ∧
    ready.presented = [] ∧ ready.port.state = .free none := by decide +kernel

theorem witness_SplitIssuesItsFirstPiece :
    ready.dispositionOf ⟨.readRaw, at_ 0 900 3 60 10⟩ = (.split ⟨twoPieces, 0, 10, false⟩, .split) ∧
    ready.benchReady = true ∧ ready.presented = [] ∧ ready.port.state = .free none := by decide +kernel

/-- A LOCAL answer of the service area's eight sectors, `n` of them taken. -/
def answering (n : Nat) : State :=
  { ready with
    slot := some
      { task := ⟨.readRaw, at_ 0 256 0 1 8⟩, disp := .localAnswer [1, 2, 3, 4, 5, 6, 7, 8], phase := .localAnswer
        passed := n } }

/-- A VERIFY of sector 2 and a READ without it; the first and the last sector of an answer. -/
theorem witness_LocalTaskIsAnsweredByThePart :
    (ready.dispositionOf ⟨.verify, at_ 0 256 0 2 1⟩ = (.localAnswer [2], .localAnswers) ∧
      ready.dispositionOf ⟨.read, at_ 0 256 0 3 4⟩ = (.localAnswer [3, 4, 5, 6], .localAnswers) ∧
      ready.benchReady = true ∧ ready.presented = [] ∧ ready.engineQuiet = true) ∧
    ((answering 0).slot.map (·.phase) = some .localAnswer ∧ [1, 2, 3, 4, 5, 6, 7, 8][0]? = some 1 ∧
      (answering 7).slot.map (·.passed) = some 7 ∧ [1, 2, 3, 4, 5, 6, 7, 8][7]? = some 8 ∧
      (answering 7).slot.map (·.task.op) = some .readRaw ∧ (answering 7).engineQuiet = true) := by decide +kernel

/-- The empty snapshot, and one taken at the last snapshot number; sectors 2 and 8. -/
theorem witness_ServedSectorsHaveTheirForm :
    2 ≤ 2 ∧ 8 ≤ 8 ∧ ready.snapNumber ≤ 65535 ∧ ready.snapshot = none ∧
    ({ ready with snapNumber := 65534 }).takeSnapshot.snapNumber = 65535 ∧
    ready.takeView.queue.length ≤ 16 ∧ ready.takeView.curve.points.length ≤ 64 ∧ ready.takeView.log.length ≤ 30 := by
  decide

/-- A snapshot with a running sweep, a full queue, a curve of 64 points and a log of 30 records. -/
theorem witness_ServedSectorsHaveTheirForm_snapshot :
    let s : State := State.takeSnapshot { sweeping with
      queue := (List.range 16).map fun i => ⟨Fin.ofNat 128 (16 + i), .plan⟩
      curve := ⟨(List.range 64).map fun (i : Nat) => ((i : Int) - 127, 65536 * i), 7⟩
      log := List.replicate 30 ⟨1, 127, .resume, .committed, 5, some ⟨-20, 3, -2, 23, .both, .marginal⟩⟩ }
    s.snapNumber = 1 ∧ s.snapshot.map (fun v => (v.queue.length, v.curve.points.length, v.log.length)) =
      some (16, 64, 30) ∧ s.snapshot.bind (fun v => v.engine.map (·.subject)) = some 9 := by decide +kernel

/-- The slot in COMPLETING. -/
def completing : State :=
  { ready with slot := some { task := ⟨.read, okTask⟩, phase := .completing okGood } }

theorem witness_TakingTheCompletionEmptiesTheSlot :
    completing.slot.map (·.phase) = some (.completing okGood) ∧ completing.presented = [] ∧
    completing.engineQuiet = true := by decide

/-- Two tasks held at the handshake while the port is held: behind a completion, in the power-on interval, in a cable
reset; the first of them alone. -/
theorem witness_TakingTheCompletionEmptiesTheSlot_held :
    let first : Task := ⟨.read, at_ 0 1500 1 5 8⟩
    ∀ rest ∈ [[], [(⟨.home, okTask⟩ : Task)]],
      let behind : State := { completing with presented := first :: rest, port := inFlight.port }
      let early : State := { ready with interval := true, presented := first :: rest, port := inFlight.port }
      let reset : State := { ready with cableReset := true, presented := first :: rest, port := inFlight.port }
      ready.dispositionOf first = (.apply 5, .applied) ∧ inFlight.port.state.isFree = false ∧
      (behind.presented = first :: rest ∧ behind.slot.map (·.phase) = some (.completing okGood) ∧
        behind.interval = false ∧ behind.cableReset = false ∧ behind.dispositionOf first = (.apply 5, .applied)) ∧
      (early.slot = none ∧ early.cableReset = false ∧ 200000 ≤ max early.now 200000 ∧
        early.dispositionOf first = (.apply 5, .applied)) ∧
      (reset.slot = none ∧ reset.interval = false ∧ reset.dispositionOf first = (.apply 5, .applied)) := by
  decide +kernel

/-- A task WAITING behind a sweep task. -/
def waiting : State := { inFlight with slot := some { task := ⟨.read, at_ 0 5 0 1 8⟩, phase := .waiting } }

theorem witness_AbortOfATaskNotIssued :
    (waiting.slot.map (·.phase) = some .waiting ∧ waiting.engineQuiet = true) ∧
    ((answering 0).slot.map (fun b => (b.phase, b.passed)) = some (.localAnswer, 0) ∧
      (answering 7).slot.map (·.disp) = some (.localAnswer [1, 2, 3, 4, 5, 6, 7, 8]) ∧
      [1, 2, 3, 4, 5, 6, 7, 8][7]? = some 8 ∧ (answering 7).slot.map (·.task.op) = some .readRaw ∧
      (answering 7).engineQuiet = true) ∧
    (ready.resting = true ∧ ready.slot = none) ∧
    (completing.resting = true ∧ completing.slot.map (·.phase) = some (.completing okGood)) := by decide

/-- A LOCAL VERIFY of sectors 3 to 6, just taken. -/
def verified : State :=
  { ready with
    slot := some
      { task := ⟨.verify, at_ 0 256 0 3 4⟩, disp := .localAnswer [3, 4, 5, 6]
        phase := .completing { status := .good, last := ⟨256, 0, 6⟩ } } }

theorem witness_AbortOfATaskNotIssued_verify :
    verified.slot.map (fun b => (b.disp, b.task.op, b.passed)) = some (.localAnswer [3, 4, 5, 6], .verify, 0) ∧
    verified.slot.map (·.phase) = some (.completing { status := .good, last := ⟨256, 0, 6⟩ }) ∧
    verified.engineQuiet = true := by decide

/-- A READ issued to a drive that does not show ready. -/
def unopened : State := unopenedTask .read (at_ 0 5 0 1 8) .pass

/-- A task forwarded; one withheld as PASS, as SNOOP, as APPLY with hold on, and as the first piece of two. -/
theorem witness_AbortOfAnIssuedTask :
    ((issued .read (at_ 0 5 0 1 8) .pass).slot.map (·.phase) = some .issued ∧
      (issued .read (at_ 0 5 0 1 8) .pass).port.state = .bench 0 ∧
      (issued .read (at_ 0 5 0 1 8) .pass).port.task.map (·.opened) = some true) ∧
    (∀ d ∈ [Disposition.pass, .snoop 0, .apply 1, .split ⟨[⟨⟨999, 3, 60⟩, 4, 12, false⟩], 1, 6, false⟩],
      (unopenedTask .read (at_ 0 5 0 1 8) d).slot.map (fun b => (b.phase, b.disp)) = some (.issued, d) ∧
      (unopenedTask .read (at_ 0 5 0 1 8) d).port.state = .bench 0 ∧
      (unopenedTask .read (at_ 0 5 0 1 8) d).port.task.map (·.opened) = some false ∧
      (unopenedTask .read (at_ 0 5 0 1 8) d).copy.complete = false) ∧
    ({ unopened with planHold := true }).holdOn = true ∧
    1 ≤ 1 ∧ [(⟨⟨999, 3, 60⟩, 4, 12, false⟩ : Piece)][1 - 1]? = some ⟨⟨999, 3, 60⟩, 4, 12, false⟩ := by decide

/-- The first of two pieces withheld, of an entry in scope and VALID, hold on. -/
theorem witness_AbortOfAnIssuedTask_inScope :
    let s : State := { unopenedTask .read (at_ 0 1500 0 60 10)
        (.split ⟨[⟨⟨1500, 0, 60⟩, 4, 1, true⟩, ⟨⟨1500, 1, 1⟩, 6, 5, true⟩], 1, 6, true⟩) with
      planHold := true
      entries := State.reset.entries.set 1 { state := .valid, centre := some 4, width := 40, drift := 31 } }
    s.slot.map (·.phase) = some .issued ∧ s.port.state = .bench 0 ∧ s.port.task.map (·.opened) = some false ∧
    s.holdOn = true ∧ s.plan.inScope 1 = true ∧ (s.entry 1).state = .valid ∧
    [(⟨⟨1500, 0, 60⟩, 4, 1, true⟩ : Piece), ⟨⟨1500, 1, 1⟩, 6, 5, true⟩][1 - 1]? =
      some ⟨⟨1500, 0, 60⟩, 4, 1, true⟩ := by decide +kernel

/-- Those four withheld while the engine asks, with a grace to come and without. -/
theorem witness_AbortOfAnIssuedTask_asking :
    ∀ g ∈ [0, 20], ∀ d ∈ [Disposition.pass, .snoop 0, .apply 1, .split ⟨[⟨⟨999, 3, 60⟩, 4, 12, true⟩], 1, 6, false⟩],
      let s : State := { asking g .read (at_ 0 5 0 1 8) d with
        port := (unopenedTask .read (at_ 0 5 0 1 8) d).port }
      s.slot.map (fun b => (b.phase, b.disp)) = some (.issued, d) ∧ s.port.state = .bench 0 ∧
      s.port.task.map (·.opened) = some false ∧ s.sweepReady = true ∧ s.engine ≠ none ∧ s.copy.complete = false ∧
      s.plan.benchGrace = g ∧ s.port.graceRun < s.plan.graceLimit := by decide +kernel

/-- An abort is forwarded to a unit with no drive attached, whose TASK phase opens and is not answered (R25, R125). -/
theorem test_abort_of_an_absent_unit : ∀ s', exec (.benchAbort { time := 5 }) absentUnit = .next s' →
    s'.port.abort = true ∧ s'.port.state = .bench 0 := by
  rintro s' h
  cases h
  decide

/-- An abort while the last of eight sectors is moving: the sector is finished and nothing remains. One that reaches the
VERIFY in LOCAL gives its full count, and one behind the record's start leaves it (R26, R175). -/
theorem test_abort_of_a_local_answer :
    (∀ s', exec (.benchAbort { time := 5, moving := true }) (answering 7) = .next s' → s'.slot.map (·.phase) =
      some (.completing { status := .error .aborted, remaining := 0, last := ⟨256, 0, 8⟩ })) ∧
    ∀ early s', exec (.benchAbort { time := 5, beforeRecord := early }) verified = .next s' → s'.slot.map (·.phase) =
      some (.completing (if early then { status := .error .aborted, remaining := 4, last := ⟨256, 0, 3⟩ }
        else { status := .good, last := ⟨256, 0, 6⟩ })) := by
  refine ⟨?_, fun early => ?_⟩
  · rintro s' h; cases h; decide +kernel
  · rintro s' h; cases early <;> cases h <;> decide +kernel

/-- The waiting records while the port is WEDGED on unit 0. -/
def wedgedWaiting : State :=
  { waitingRecords with port := { state := .wedged 0 none, task := some ⟨ctx.pointTask 2, true⟩ } }

/-- A slot in COMPLETING; WEDGED with hold on; WEDGED with a record that the cable reset makes eligible. -/
theorem witness_CableResetAndItsRelease :
    (completing.engine = none ∧ completing.wedgedOn 0 = false ∧ completing.wedgedOn 1 = false) ∧
    (({ wedgedWaiting with planHold := true }).engine = none ∧ ({ wedgedWaiting with planHold := true }).holdOn = true) ∧
    (wedgedWaiting.engine = none ∧ wedgedWaiting.port.state = .wedged 0 none ∧ wedgedWaiting.holdOn = false ∧
      wedgedWaiting.active = true ∧ wedgedWaiting.queue = [⟨64, .plan⟩] ++ ⟨1, .drift⟩ :: [⟨4, .plan⟩] ∧
      wedgedWaiting.settled (unitOf 64) = false ∧ wedgedWaiting.settled (unitOf 1) = true ∧
      wedgedWaiting.plan.inScope 1 = true) ∧
    ({ State.reset with cableReset := true }).resting = true := by decide +kernel

/-- A task waiting for a drive, a READ RAW and a SNOOP issued. -/
theorem witness_DriveSideIsRelayed :
    (unopened.resting = true ∧ unopened.port.task.map (·.task.fields.unit) = some 0) ∧
    ((issued .readRaw (at_ 0 5 0 1 8) .pass).slot.map (fun b => (b.phase, b.task.op)) = some (.issued, .readRaw) ∧
      (issued .readRaw (at_ 0 5 0 1 8) .pass).port.state = .bench 0 ∧
      (issued .readRaw (at_ 0 5 0 1 8) .pass).driveAnswers = true) ∧
    ((issued .write (at_ 0 256 0 1 1) (.snoop 0)).slot.map (fun b => (b.phase, b.task.op)) = some (.issued, .write) ∧
      (issued .write (at_ 0 256 0 1 1) (.snoop 0)).port.state = .bench 0 ∧
      (issued .write (at_ 0 256 0 1 1) (.snoop 0)).driveAnswers = true) := by decide

/-- A SNOOP of the plan sector whose abort has been forwarded, the sector moving then or not. -/
def stopped (moving : Bool) : State :=
  { ready with
    slot := some
      { task := ⟨.write, at_ 0 256 0 1 1⟩, disp := .snoop 0, phase := .issued, abort := true, finishing := moving }
    port := { state := .bench 0, abort := true, task := some ⟨⟨.write, at_ 0 256 0 1 1⟩, true⟩ } }

theorem witness_DriveSideIsRelayed_aborted :
    ∀ moving ∈ [true, false],
      (stopped moving).slot.map (fun b => (b.phase, b.task.op, b.abort, b.finishing)) =
        some (.issued, .write, true, moving) ∧
      (stopped moving).port.state = .bench 0 ∧ (stopped moving).driveAnswers = true := by decide

/-- From the abort on the plan sector passes only if it was moving then, and never completes the copy (R38, R123). -/
theorem test_write_sector_after_an_abort : ∀ moving a s',
    exec (.benchAbort { time := 5, moving := moving }) (issued .write (at_ 0 256 0 1 1) (.snoop 0)) = .next a →
    exec (.benchWriteSector 6 (List.replicate 512 7)) a = .next s' →
    s'.slot.map (·.passed) = some (if moving then 1 else 0) ∧ s'.driveData.length = (if moving then 512 else 0) ∧
    s'.copy.complete = false ∧ s'.port.abort = true := by
  rintro moving a s' h g
  cases moving <;> cases h <;> cases g <;> decide +kernel

/-- SET GEOMETRY with 255 sectors. -/
def geometryOp (heads : Nat) : State :=
  issued .setGeometry { okTask with headsOperand := heads, sectorsOperand := 255 } .pass

/-- 16 heads and 17 at GOOD; 0 heads, refused. -/
theorem witness_PassCompletionReachesTheBench :
    (∀ heads ∈ [0, 16, 17],
      (geometryOp heads).slot.map (fun b =>
          (b.phase, b.disp, b.task.op, b.task.fields.sectorsOperand, b.task.fields.headsOperand)) =
        some (.issued, .pass, .setGeometry, 255, heads) ∧
      (geometryOp heads).driveAnswers = true ∧ (geometryOp heads).active = true) ∧
    (Status.error .refused) ≠ .good ∧
    (issued .home okTask .pass).slot.map (fun b => (b.phase, b.disp, b.task.op)) = some (.issued, .pass, .home) := by
  decide

/-- An asking engine behind a PASS, an APPLY and a SNOOP: a grace to come, G of 0, and the grace-run count at B. -/
theorem witness_PassCompletionReachesTheBench_asking :
    ∀ d ∈ [Disposition.pass, .apply 1, .snoop 0], ∀ x ∈ [(20, 0, true), (0, 0, false), (20, zonedPlan.graceLimit, false)],
      let a := asking x.1 .seek (at_ 0 5 0 1 8) d
      let s : State := { a with port := { a.port with graceRun := x.2.1 } }
      s.slot.map (fun b => (b.phase, b.disp)) = some (.issued, d) ∧ s.driveAnswers = true ∧ s.sweepReady = true ∧
      s.engine ≠ none ∧ decide (0 < s.plan.benchGrace ∧ s.port.graceRun < s.plan.graceLimit) = x.2.2 := by decide +kernel

/-- The asking engine waits for a grace of 20 ms and is let in at once without one (R133, R134). -/
theorem test_asking_engine_at_a_completion :
    (∀ s', exec (.benchTaskCompletion 5 okGood) (asking 20 .home okTask .pass) = .next s' →
      s'.port.state = .free (some 20005)) ∧
    ∀ s', exec (.benchTaskCompletion 5 okGood) (asking 0 .home okTask .pass) = .next s' →
      s'.port.state = .sweep 0 .running 500005 50 := by
  constructor <;> rintro s' h <;> cases h <;> decide +kernel

/-- A VALID entry at drift score 31 under limit 32, its reads being APPLY; hold on. -/
def drifting : State :=
  { issued .read (lin 0 302400 10) (.apply 1) with
    holdLine := { rawLow := true, asserted := true }
    entries := State.reset.entries.set 1 { state := .valid, centre := some 4, width := 40, drift := 31 } }

/-- The score goes to 32 by a failure, to 33 by a corrected read, to 30 by a good one; another entry is out of scope. -/
theorem witness_ApplyCompletionIsDriftEvidence :
    drifting.slot.map (fun b => (b.phase, b.disp)) = some (.issued, .apply 1) ∧ drifting.holdOn = true ∧
    drifting.driveAnswers = true ∧
    drifting.plan.inScope 1 = true ∧ (drifting.entry 1).state = .valid ∧ drifting.plan.driftLimit = 32 ∧
    driftAfter .read { okGood with corrected := true } 31 = 33 ∧ driftAfter .read okGood 31 = 30 ∧
    drifting.isSubject 1 = false ∧ drifting.isQueued 1 = false ∧ drifting.queue.length < 16 ∧
    drifting.plan.inScope 127 = false := by decide +kernel

/-- A SNOOP issued with the given copy. -/
def snooping (copy : Copy) : State :=
  { issued .write (at_ 0 256 0 1 1) (.snoop 0) with
    holdLine := { rawLow := true, asserted := true }, copy := copy }

theorem witness_SnoopCompletionJudgesTheCopy :
    (snooping {}).slot.map (fun b => (b.phase, b.disp)) = some (.issued, .snoop 0) ∧
    (snooping {}).driveAnswers = true ∧ (snooping {}).copy.complete = false ∧
    judge (zeros 512) = .ignored ∧
    judge ((planSector { zonedPlan with number := 13 }).set 20 255) = .refused 13 .check := by decide +kernel

/-- Each cause of a refusal; a plan taken with a field clamped, and with none, at the ends of the offset range. -/
theorem witness_SnoopCompletionJudgesTheCopy_causes :
    ¬ (wordAt (zeros 512) 0 = 22600 ∧ wordAt (zeros 512) 2 = 16724) ∧
    wordSum ((planSector zonedPlan).set 20 255) % 65536 ≠ 0 ∧
    judge (planSector { zonedPlan with zoneCount := 0 }) = .refused 20 .count ∧
    judge (planSector { zonedPlan with zones := zonedPlan.zones.set 1 ⟨0, 1200, 20, 2⟩ }) = .refused 20 .zones ∧
    judge (planSector { zonedPlan with zones := zonedPlan.zones.set 1 ⟨1000, 999, 20, 2⟩ }) = .refused 20 .testcyl ∧
    judge (planSector { zonedPlan with offset1 := 10, offset2 := 9 }) = .refused 20 .range ∧
    judge (planSector { zonedPlan with offset1 := -127, offset2 := 125 }) =
      .taken { zonedPlan with offset1 := -127, offset2 := 125 } false ∧
    judge (planSector { zonedPlan with offset1 := -127, offset2 := 126 }) =
      .taken { zonedPlan with offset1 := -127, offset2 := 125 } true := by decide +kernel

/-- The plan in force sent again with zone 1's test cylinder moved: zone 1 is redefined, zone 0 is not. -/
def moved : Plan :=
  { zonedPlan with number := 21, zones := #v[⟨0, 300, 1, 16⟩, ⟨1000, 1210, 20, 2⟩, ⟨0, 0, 0, 0⟩, ⟨0, 0, 0, 0⟩] }

/-- The sweep of `ctx` running while plan `p` is completed as a SNOOP, hold on. -/
def sweepingSnoop (p : Plan) : State :=
  { snooping ⟨planSector p, true⟩ with engine := some ctx, entries := State.reset.entries.set 9 subject9 }

/-- Zone 1 redefined, under a sweep of zone 1 and without a sweep; no zone redefined but unit 0 disabled; nothing changed
but the SWMARK mode; each action. -/
theorem witness_TakenPlanRedefinesItsZones :
    (∀ p ∈ [moved, { zonedPlan with unitMask := ⟨false, true⟩ }, { zonedPlan with swmarkMode := .sweep },
        { zonedPlan with actions := ⟨true, true, true, false⟩ }, { zonedPlan with actions := ⟨false, false, true, true⟩ }],
      judge (planSector p) = .taken p false ∧
      (snooping ⟨planSector p, true⟩).slot.map (fun b => (b.phase, b.disp)) = some (.issued, .snoop 0) ∧
      (snooping ⟨planSector p, true⟩).driveAnswers = true ∧ (snooping ⟨planSector p, true⟩).engine = none ∧
      (snooping ⟨planSector p, true⟩).copy.complete = true ∧ (sweepingSnoop p).copy.complete = true) ∧
    ((sweepingSnoop moved).slot.map (fun b => (b.phase, b.disp)) = some (.issued, .snoop 0) ∧
      (sweepingSnoop moved).driveAnswers = true ∧ (sweepingSnoop moved).engine = some ctx ∧
      ((sweepingSnoop moved).entry ctx.subject).state = .measuring ∧
      (sweepingSnoop moved).holdLine.asserted = true ∧ ∀ i, ((sweepingSnoop moved).entry i).wanted = none) ∧
    redefines zonedPlan moved 0 = false ∧ redefines zonedPlan moved 1 = true ∧
    ({ zonedPlan with unitMask := ⟨false, true⟩ }).inScope 9 = false := by decide +kernel

/-- The plan of the disposition table. -/
theorem witness_PlanSectorReadsBackAsItsPlan : zonedPlan.Ok := zonedPlan_ok

/-- A SPLIT task over two entries out of scope, `n` of its pieces issued. -/
def splitting (n : Nat) (abort : Bool) : State :=
  { ready with
    plan := { zonedPlan with unitMask := ⟨false, true⟩ }
    slot := some
      { task := ⟨.read, at_ 0 999 3 60 10⟩
        disp := .split ⟨[⟨⟨999, 3, 60⟩, 4, 12, false⟩, ⟨⟨1000, 0, 1⟩, 6, 1, true⟩], n, 10 - 4 * n, false⟩
        phase := .issued, abort := abort }
    port := { state := .bench 0, task := some ⟨⟨.read, at_ 0 999 3 60 4⟩, true⟩ } }

/-- The first piece with one left, aborted and not; the operand `abortBehind` is free. -/
theorem witness_PieceCompletionsAreMerged :
    (∀ abort ∈ [true, false],
      (splitting 1 abort).slot.map (fun b => (b.phase, b.abort)) = some (.issued, abort) ∧
      (splitting 1 abort).port.state = .bench 0 ∧ (splitting 1 abort).driveAnswers = true) ∧
    [(⟨⟨999, 3, 60⟩, 4, 12, false⟩ : Piece), ⟨⟨1000, 0, 1⟩, 6, 1, true⟩][1 - 1]? =
      some ⟨⟨999, 3, 60⟩, 4, 12, false⟩ ∧
    [(⟨⟨999, 3, 60⟩, 4, 12, false⟩ : Piece), ⟨⟨1000, 0, 1⟩, 6, 1, true⟩][1]? = some ⟨⟨1000, 0, 1⟩, 6, 1, true⟩ := by
  decide

/-- A whole SPLIT task of one piece left, out of scope. -/
theorem witness_PieceCompletionsAreMerged_last :
    1 ≤ 1 ∧ [(⟨⟨999, 3, 60⟩, 4, 12, false⟩ : Piece)][1 - 1]? = some ⟨⟨999, 3, 60⟩, 4, 12, false⟩ ∧
    [(⟨⟨999, 3, 60⟩, 4, 12, false⟩ : Piece)].length ≤ 1 := by decide

/-- Its one piece and the first of two, in scope, while the engine asks, with a grace to come and without. -/
theorem witness_PieceCompletionsAreMerged_asking :
    ∀ g ∈ [0, 20], ∀ l ∈ [[(⟨⟨999, 3, 60⟩, 4, 1, true⟩ : Piece)], [⟨⟨999, 3, 60⟩, 4, 1, true⟩, ⟨⟨1000, 0, 1⟩, 6, 5, true⟩]],
      let s := asking g .read (at_ 0 999 3 60 10) (.split ⟨l, 1, 6, false⟩)
      s.slot.map (·.phase) = some .issued ∧ s.port.state = .bench 0 ∧ s.driveAnswers = true ∧ s.sweepReady = true ∧
      s.engine ≠ none ∧ l[1 - 1]? = some ⟨⟨999, 3, 60⟩, 4, 1, true⟩ := by decide +kernel

/-- The read of section 6.11 with its second piece in flight. -/
def secondPiece : State :=
  { ready with
    slot := some
      { task := ⟨.read, lin 0 302565 170⟩
        disp := .split ⟨[⟨⟨1200, 2, 40⟩, 24, 9, true⟩, ⟨⟨1200, 3, 1⟩, 63, 13, true⟩, ⟨⟨1201, 0, 1⟩, 63, 1, true⟩,
          ⟨⟨1201, 1, 1⟩, 20, 5, true⟩], 2, 83, true⟩
        phase := .issued, passed := 87 }
    entries := State.reset.entries.set 13 { state := .valid, centre := some 3, width := 40, drift := 3 }
    port := { state := .bench 0, task := some ⟨⟨.read, at_ 0 1200 3 1 63⟩, true⟩ } }

/-- The abort of section 6.11 between its steps 4 and 5: entry 13 has its event, piece 3 is not issued and no abort goes to
the drive. -/
theorem test_abort_behind_a_piece_of_section_6_11 : ∀ s',
    exec (.pieceCompletion 5 ⟨{ status := .good, last := ⟨1200, 3, 63⟩ }, true⟩) secondPiece = .next s' →
    s'.slot.map (·.phase) =
      some (.completing
        { status := .error .aborted, corrected := true, remaining := 83, last := ⟨1200, 3, 63⟩ }) ∧
    s'.port.state.isFree = true ∧ s'.port.abort = false ∧ (s'.entry 13).drift = 2 := by
  rintro s' h
  cases h
  decide +kernel

/-- The first of two pieces of an entry in scope, hold on. -/
theorem witness_PieceCompletionsAreMerged_inScope :
    let s : State := { drifting with
      slot := some
        { task := ⟨.read, at_ 0 900 3 60 10⟩
          disp := .split ⟨[⟨⟨1500, 0, 60⟩, 4, 1, true⟩, ⟨⟨1500, 1, 1⟩, 6, 5, true⟩], 1, 6, false⟩
          phase := .issued } }
    s.slot.map (·.phase) = some .issued ∧ s.port.state = .bench 0 ∧ s.driveAnswers = true ∧
    s.holdOn = true ∧ s.plan.inScope 1 = true ∧ (s.entry 1).state = .valid ∧ 1 ≤ 1 ∧
    [(⟨⟨1500, 0, 60⟩, 4, 1, true⟩ : Piece), ⟨⟨1500, 1, 1⟩, 6, 5, true⟩][1 - 1]? =
      some ⟨⟨1500, 0, 60⟩, 4, 1, true⟩ := by decide +kernel

/-- The read of section 6.11: its third piece ends with 23 remaining, and with the lowest and the highest count. -/
theorem witness_PiecesCoverTheTask :
    let secs := (List.range 170).map fun i => (⟨4, 63⟩ : Geometry).ofLinear (302565 + i)
    let pieces := buildPieces (zonedPlan.entryOfSector 0) zonedPlan.inScope secs
    (⟨4, 63⟩ : Geometry).run 302565 170 = some secs ∧
    pieces = [⟨⟨1200, 2, 40⟩, 24, 9, true⟩, ⟨⟨1200, 3, 1⟩, 63, 13, true⟩, ⟨⟨1201, 0, 1⟩, 63, 1, true⟩,
      ⟨⟨1201, 1, 1⟩, 20, 5, true⟩] ∧
    (Sequencer.mk pieces 3 20 true).outstanding = (Sequencer.mk pieces 3 20 true).toIssue ∧
    pieces[2]? = some ⟨⟨1201, 0, 1⟩, 63, 1, true⟩ ∧
    (⟨1201, 0, 41⟩ : Chs) = (⟨4, 63⟩ : Geometry).ofLinear (302565 + (24 + 63) + (63 - 23)) ∧
    (⟨1201, 0, 1⟩ : Chs) = (⟨4, 63⟩ : Geometry).ofLinear (302565 + (24 + 63) + (63 - 63)) ∧
    (⟨1201, 0, 63⟩ : Chs) = (⟨4, 63⟩ : Geometry).ofLinear (302565 + (24 + 63) + (63 - 1)) := by decide +kernel

/-- The point task of `inFlight` left over by a sweep that has ended. -/
def leftOver : State :=
  { inFlight with
    engine := none
    port := { state := .sweep 0 (.leftOver none) 700000 50, task := some ⟨ctx.pointTask 2, true⟩ } }

/-- A sector of the running sweep; one of a left-over task in SWEEP, in ABORTING and on a WEDGED port. -/
theorem witness_ComparatorCountsDifferingBits :
    (inFlight.engine.bind (·.flight) = some ⟨ctx.pointTask 2, .point 2, 1, 3⟩ ∧
      inFlight.port.state.runningTask = true ∧ inFlight.driveAnswers = true ∧ inFlight.presented = []) ∧
    (∀ p ∈ [PortState.sweep 0 (.leftOver none) 700000 50, .aborting 0 (.leftOver none) 700000, .wedged 0 none],
      let s : State := { leftOver with port := { leftOver.port with state := p } }
      s.port.state = p ∧ s.port.task.map (·.task.op) = some .readRaw ∧ s.driveAnswers = true ∧ s.presented = []) := by
  decide +kernel

/-- Bits that differ, counted by hand: 3 in the first byte, 1 in the second; a byte without a partner counts nothing. -/
theorem test_differing_bits : differingBits [0x07, 0x80, 0xFF] [0x00, 0x00] = 4 := by decide

/-- GOOD, and an ERROR with the retry unspent and an empty queue, or with the retry spent. -/
theorem witness_LayCompletionOpensTheSweep :
    layingHeld.engine.bind (·.flight) = some ⟨ctx.layTask, .lay, 0, 0⟩ ∧
    layingHeld.port.state = .sweep 0 .running 700000 50 ∧ layingHeld.holdOn = true ∧ layingHeld.benchAsks = none ∧
    layingHeld.driveAnswers = true ∧ layingHeld.presented = [] ∧ okGood.status = .good ∧ (Status.error .writeFault) ≠ .good ∧
    (layingHeld.entry 9).retries = 0 ∧ layingHeld.plan.inScope 9 = true ∧ layingHeld.isQueued 9 = false ∧
    layingHeld.queue.length < 16 ∧
    (({ layingHeld with entries := State.reset.entries.set 9 { subject9 with retries := 1 } }).entry 9).retries ≠ 0 := by
  decide +kernel

/-- The last position but one, and the last position of a pass but the last. -/
theorem witness_PointCompletionCountsAndAdvances :
    inFlightHeld.engine.bind (·.flight) = some ⟨ctx.pointTask 2, .point 2, 1, 3⟩ ∧
    inFlightHeld.port.state = .sweep 0 .running 700000 50 ∧ inFlightHeld.holdOn = true ∧
    inFlightHeld.benchAsks = none ∧ inFlightHeld.driveAnswers = true ∧ inFlightHeld.presented = [] ∧
    ({ ctx with position := 3 }).position + 1 < ctx.points ∧
    ¬ ({ ctx with position := 4 }).position + 1 < ctx.points ∧ ctx.pass < ctx.passes := by decide +kernel

/-- A READ WAITING behind that point task, as PASS and as APPLY of the subject; the engine would ask too. -/
theorem witness_PointCompletionCountsAndAdvances_waiting :
    ∀ d ∈ [Disposition.pass, .apply 9],
      let s : State := { inFlight with slot := some { task := ⟨.read, at_ 0 1500 2 5 8⟩, disp := d, phase := .waiting } }
      s.engine.bind (·.flight) = some ⟨ctx.pointTask 2, .point 2, 1, 3⟩ ∧
      s.port.state = .sweep 0 .running 700000 50 ∧ s.driveAnswers = true ∧ s.holdOn = false ∧
      s.slot.map (fun b => (b.phase, b.disp)) = some (.waiting, d) ∧ Op.read ∉ [Op.write, .spinDown] := by
  decide +kernel

theorem witness_NextPointTaskIsGrantedAtOnce :
    inFlight.engine.map (·.phase) = some .sweeping ∧
    inFlight.engine.bind (·.flight) = some ⟨ctx.pointTask 2, .point 2, 1, 3⟩ ∧
    inFlight.port.state = .sweep 0 .running 700000 50 ∧ inFlight.driveAnswers = true ∧ inFlight.holdOn = false ∧
    inFlight.settled (unitOf ctx.subject) = true ∧ inFlight.benchAsks = none ∧ inFlight.presented = [] ∧
    ctx.position + 1 < ctx.points := by decide +kernel

/-- The last point of section 3.7: the tally 32 joins the curve of section 4.12. -/
def lastCtx : Context :=
  { ctx with pass := 2, position := 4, sums := [620, 68, 0, 32, 4446], flight := some ⟨ctx.pointTask 2, .point 2, 2, 11⟩ }

def lastPoint : State := { inFlightHeld with engine := some lastCtx }

theorem witness_LastPointEndsTheSweepWithItsFit :
    lastPoint.engine.bind (·.flight) = some ⟨ctx.pointTask 2, .point 2, 2, 11⟩ ∧
    lastPoint.port.state = .sweep 0 .running 700000 50 ∧ lastPoint.holdOn = true ∧ lastPoint.benchAsks = none ∧
    lastPoint.driveAnswers = true ∧ lastPoint.presented = [] ∧ lastCtx.points ≤ lastCtx.position + 1 ∧ lastCtx.passes ≤ lastCtx.pass ∧
    ({ lastCtx with flight := none, sums := lastCtx.sums.set 2 (lastCtx.sums.getD 2 0 + 11) }).fit =
      .found ⟨-20, 3, -2, 23, .none, .valid⟩ .committed ∧
    ({ lastCtx with
        priorState := .unmeasured, minWidth := 127, flight := none
        sums := lastCtx.sums.set 2 (lastCtx.sums.getD 2 0 + 11) }).fit =
      .found ⟨-20, 3, -2, 23, .none, .marginal⟩ .marginal ∧
    ({ lastCtx with
        priorState := .suspect, priorCentre := some 40, priorCandidate := some 0, flight := none
        sums := lastCtx.sums.set 2 (lastCtx.sums.getD 2 0 + 11) }).fit =
      .found ⟨-20, 3, -2, 23, .none, .valid⟩ .confirmed ∧
    ({ lastCtx with
        priorCentre := some 40, flight := none, sums := lastCtx.sums.set 2 (lastCtx.sums.getD 2 0 + 11) }).fit =
      .found ⟨-20, 3, -2, 23, .none, .valid⟩ .jump ∧
    ({ lastCtx with
        priorState := .suspect, priorCentre := some 40, priorCandidate := some 20, flight := none
        sums := lastCtx.sums.set 2 (lastCtx.sums.getD 2 0 + 11) }).fit =
      .found ⟨-20, 3, -2, 23, .none, .valid⟩ .failedJump ∧
    ({ lastCtx with flight := none, threshold := 0, sums := lastCtx.sums.set 2 (lastCtx.sums.getD 2 0 + 11) }).fit =
      .noOpening ∧
    lastPoint.plan.inScope 9 = true ∧ lastPoint.isQueued 9 = false ∧ lastPoint.queue.length < 16 ∧
    (lastPoint.entry 9).retries = 0 := by decide +kernel

/-- An APPLY of the subject, and one of another entry, WAITING behind the last point. -/
theorem witness_ApplyCarriesTheCentre_waiting :
    ∀ a ∈ [(9 : EntryNo), 5],
      let s : State := { lastPoint with
        slot := some { task := ⟨.read, at_ 0 1500 2 5 8⟩, disp := .apply a, phase := .waiting } }
      s.engine.bind (·.flight) = some ⟨ctx.pointTask 2, .point 2, 2, 11⟩ ∧
      s.port.state = .sweep 0 .running 700000 50 ∧ s.driveAnswers = true ∧ s.holdOn = true ∧
      lastCtx.points ≤ lastCtx.position + 1 ∧ lastCtx.passes ≤ lastCtx.pass ∧
      s.slot.map (fun b => (b.phase, b.disp)) = some (.waiting, .apply a) ∧
      ({ lastCtx with flight := none, sums := lastCtx.sums.set 2 (lastCtx.sums.getD 2 0 + 11) }).fit =
        .found ⟨-20, 3, -2, 23, .none, .valid⟩ .committed := by decide +kernel

/-- The running sweep's task in the given port state, its TASK phase opened or not, hold on. -/
def timing (p : PortState) (opened : Bool) : State :=
  { inFlightHeld with port := { state := p, task := some ⟨ctx.pointTask 2, opened⟩ } }

/-- The same with the subject's retry spent. -/
def failedOnce : State := { inFlightHeld with entries := State.reset.entries.set 9 { subject9 with retries := 1 } }

/-- A completion in ABORTING, an expiry before the TASK phase and a second expiry, each at its time; a first failure and a
second. -/
theorem witness_TimedOutTaskEndsItsSweep :
    (timing (.aborting 0 .running 700000) true).engine.isSome = true ∧
    (timing (.aborting 0 .running 700000) true).holdOn = true ∧
    (timing (.aborting 0 .running 700000) true).benchAsks = none ∧
    (timing (.aborting 0 .running 700000) true).presented = [] ∧
    (timing (.aborting 0 .running 700000) true).port.task.isSome = true ∧
    (timing (.aborting 0 .running 700000) true).driveAnswers = true ∧
    (timing (.sweep 0 .running 700000 50) false).port.task.map (·.opened) = some false ∧
    700000 ≤ max (timing (.sweep 0 .running 700000 50) false).now 700000 ∧
    zonedPlan.inScope 9 = true ∧ inFlightHeld.isQueued 9 = false ∧ inFlightHeld.queue.length < 16 ∧
    (inFlightHeld.entry 9).retries = 0 ∧ (failedOnce.entry 9).retries ≠ 0 := by decide +kernel

theorem witness_ExpiriesAbortAndWedge :
    ((timing (.sweep 0 .running 700000 50) true).port.task.map (·.opened) = some true ∧
      700000 ≤ max (timing (.sweep 0 .running 700000 50) true).now 700000 ∧
      ¬ 700000 ≤ max (timing (.sweep 0 .running 700000 50) true).now 699999) ∧
    ((timing (.aborting 0 (.leftOver none) 700000) true).port.state = .aborting 0 (.leftOver none) 700000 ∧
      (timing (.aborting 0 (.leftOver none) 700000) true).presented = []) := by decide +kernel

theorem witness_StrayCompletionsOnlyFreeThePort :
    leftOver.benchAsks = none ∧ leftOver.sweepReady = false ∧ leftOver.presented = [] ∧
    leftOver.driveAnswers = true ∧ (timing (.wedged 0 none) true).driveAnswers = true ∧
    leftOver.port.state = .sweep 0 (.leftOver none) 700000 50 ∧
    (timing (.aborting 0 (.leftOver none) 700000) true).sweepReady = false ∧
    (timing (.wedged 0 none) true).sweepReady = false ∧ (timing (.wedged 0 none) true).queue = [] ∧
    (timing (.wedged 0 none) true).engine ≠ none := by decide +kernel

/-- A WAITING PASS and a WAITING APPLY, with the left-over task in each of its port states and the engine running. -/
theorem witness_StrayCompletionsOnlyFreeThePort_waiting :
    ∀ d ∈ [Disposition.pass, .apply 9], ∀ p ∈ [PortState.sweep 0 (.leftOver none) 700000 50,
        .aborting 0 (.leftOver none) 700000, .wedged 0 none],
      let s : State := { sweeping with
        port := { state := p, task := some ⟨ctx.pointTask 2, true⟩ }
        slot := some { task := ⟨.read, at_ 0 1500 2 5 8⟩, disp := d, phase := .waiting } }
      s.port.state = p ∧ s.driveAnswers = true ∧ s.engine ≠ none ∧ s.sweepReady = true ∧
      s.slot.map (fun b => (b.phase, b.disp)) = some (.waiting, d) ∧ Op.read ∉ [Op.write, .spinDown] := by
  decide +kernel

/-- The sweep of `ctx` asking while a grace runs. -/
def graced : State := { sweeping with port := { state := .free (some 20000) } }

/-- The last microsecond of the grace and its end, with the engine held back and asking. -/
theorem witness_GraceExpiryLetsTheSweepIn :
    graced.port.state = .free (some 20000) ∧ graced.benchAsks = none ∧ graced.presented = [] ∧
    max graced.now 19999 < 20000 ∧ 20000 ≤ max graced.now 20000 ∧ graced.sweepReady = true ∧
    graced.engine = some ctx ∧
    ({ graced with holdLine := { rawLow := true, asserted := true } }).sweepReady = false := by decide +kernel

/-- The same sweep in LAYING. -/
theorem witness_GraceExpiryLetsTheSweepIn_laying :
    let s : State := { graced with engine := some { ctx with phase := .laying } }
    s.port.state = .free (some 20000) ∧ s.benchAsks = none ∧ s.presented = [] ∧ 20000 ≤ max s.now 20000 ∧
    s.sweepReady = true ∧ s.engine = some { ctx with phase := .laying } := by decide +kernel

/-- The stop timer at its time; an interval 66 µs too long and 66 µs too short; a cable reset with a task in flight; a SPIN
DOWN with the port FREE. -/
theorem witness_OutsideEventsEndTheSweepWithResume :
    sweepingHeld.engine = some ctx ∧ sweepingHeld.active = true ∧ sweepingHeld.holdOn = true ∧
    sweepingHeld.queue.length < 16 ∧
    (inFlightHeld.engine.isSome = true ∧ inFlightHeld.port.state = .sweep 0 .running 700000 50) ∧
    ((sweepingHeld.monitors.get 0).stopTimer = some 133332 ∧ 133332 ≤ max sweepingHeld.now 133332) ∧
    (8333 + 8333 / 128 < 108399 - 100000 ∧ 108267 - 100000 + 8333 / 128 < 8333 ∧
      (sweepingHeld.monitors.get 0).state = .settled ∧ (sweepingHeld.monitors.get 0).lastPulse = some 100000 ∧
      (sweepingHeld.monitors.get 0).lastPeriod = some 8333) ∧
    (sweepingHeld.benchReady = true ∧ sweepingHeld.presented = [] ∧ sweepingHeld.port.state = .free none ∧
      sweepingHeld.benchAsks = none ∧ unitOf ctx.subject = 0) := by decide +kernel

/-- A full queue that ends with a record of entry 31; a bench task in the slot; the port in ABORTING. -/
theorem witness_OutsideEventsEndTheSweepWithResume_full :
    let s : State := { timing (.aborting 0 .running 700000) true with
      queue := (List.range 16).map fun i => ⟨Fin.ofNat 128 (16 + i), .plan⟩
      slot := some { task := ⟨.read, at_ 0 5 0 1 8⟩, phase := .waiting } }
    s.engine.map (·.subject) = some 9 ∧ s.active = true ∧ s.holdOn = true ∧ s.isQueued 9 = false ∧
    16 ≤ s.queue.length ∧ s.queue = s.queue.dropLast ++ [⟨31, .plan⟩] ∧
    s.port.state = .aborting 0 .running 700000 ∧ s.slot.isSome = true := by decide +kernel

/-- A point task in SWEEP, one in ABORTING, and a lay WRITE in flight, at the stop timer's time and at an unstable
interval. -/
theorem witness_OutsideEventsEndTheSweepWithResume_inFlight :
    ∀ s ∈ [inFlightHeld, timing (.aborting 0 .running 700000) true, layingHeld],
      s.engine.map (·.subject) = some 9 ∧ s.engine.map (·.flight.isSome) = some true ∧ s.active = true ∧
      s.holdOn = true ∧ s.queue.length < 16 ∧ s.port.state.runningTask = true ∧ s.monitors.get 0 = settled ∧
      s.presented = [] ∧ s.benchAsks = none ∧ 133332 ≤ max s.now 133332 ∧
      8333 + 8333 / 128 < max s.now 108399 - 100000 := by decide +kernel

/-- Unit 0 spinning up as after pulse 8 of section 8.9. -/
def spinning : State := { held with monitors := ⟨pulse8, {}⟩, plan := { zonedPlan with settleCount := 5 } }

/-- A pulse 999 µs after the last, a first pulse, a stable one below the settle count, and one at the end of STOPPING's
window. -/
theorem witness_IndexPulseIsPassedAndWorked :
    spinning.resting = true ∧ pulse8.lastPulse = some 100000 ∧ max spinning.now 100999 < 100000 + 1000 ∧
    ((spinning.monitors.get 1).lastPulse = none ∧ (spinning.monitors.get 1).state = .unknown ∧
      (spinning.monitors.get 1).lastPeriod = none) ∧
    (pulse8.lastPeriod = some 8333 ∧ 100000 + 1000 ≤ max spinning.now 101000 ∧ pulse8.state = .spinningUp ∧
      min 255 (pulse8.stable + 1) < spinning.plan.settleCount) ∧
    ({ pulse8 with state := .stopping, stoppingSince := some 100000 }).stoppingSince = some 100000 ∧
    max spinning.now 2100000 ≤ 100000 + 2000000 := by decide +kernel

/-- A first period below the settle count; a stable pulse and a first period in SETTLED; the first microsecond past
STOPPING's window. -/
theorem witness_IndexPulseIsPassedAndWorked_more :
    (({ pulse8 with lastPeriod := none, stable := 0 }).state = .spinningUp ∧ (0 : Nat) < spinning.plan.settleCount) ∧
    (held.resting = true ∧ settled.state = .settled ∧ settled.lastPulse = some 100000 ∧
      108333 - 100000 ≤ 8333 + 8333 / 128 ∧ 8333 ≤ 108333 - 100000 + 8333 / 128 ∧
      ({ settled with lastPeriod := none }).lastPeriod = none) ∧
    (({ pulse8 with state := .stopping, stoppingSince := some 100000 }).state = .stopping ∧
      100000 + 2000000 < max spinning.now 2100001) := by decide +kernel

/-- An unstable interval, 66 µs too long and 66 µs too short, on a SETTLED unit that no sweep measures: with no sweep at
all, and with one on the other unit. -/
theorem witness_IndexPulseIsPassedAndWorked_unstable :
    let other : State := { sweepingHeld with monitors := ⟨settled, settled⟩ }
    (∀ i ∈ [8399, 8267], ¬ (i ≤ 2000000 ∧ i ≤ 8333 + 8333 / 128 ∧ 8333 ≤ i + 8333 / 128)) ∧
    (({ held with monitors := ⟨settled, {}⟩ }).resting = true ∧ held.engine = none ∧ settled.lastPeriod ≠ none) ∧
    (other.resting = true ∧ other.engine.map (fun c => unitOf c.subject) = some 0 ∧ other.monitors.get 1 = settled) := by
  decide +kernel

/-- The settle of section 8.9 with hold on: the fourth stable interval, at the allowance's limit either way. -/
def settling : State :=
  { held with
    monitors := ⟨pulse8, {}⟩, plan := { zonedPlan with settleCount := 4 }
    entries := State.reset.entries.set 1 { state := .marginal, centre := some 2, width := 20 } }

theorem witness_SettlingAfterAStopMakesEntriesStale :
    settling.resting = true ∧ settling.holdOn = true ∧ settling.engine = none ∧
    (settling.monitors.get 0).state = .spinningUp ∧ (settling.monitors.get 0).lastPulse = some 100000 ∧
    (settling.monitors.get 0).lastPeriod = some 8333 ∧ 100000 + 1000 ≤ max settling.now 108398 ∧
    108398 - 100000 ≤ 2000000 ∧ 108398 - 100000 ≤ 8333 + 8333 / 128 ∧ 8333 ≤ 108268 - 100000 + 8333 / 128 ∧
    settling.plan.settleCount ≤ min 255 ((settling.monitors.get 0).stable + 1) ∧
    (settling.monitors.get 0).stopRemembered = true ∧ settling.plan.inScope 1 = true := by decide +kernel

/-- A queue with room for one record and three entries that ask: the first is queued, the others are marked wanted. -/
def crowded (e : Entry) : State :=
  { settling with
    queue := (List.range 15).map fun i => ⟨Fin.ofNat 128 (16 + i), .plan⟩
    entries := ((State.reset.entries.set 1 e).set 4 e).set 5 e }

theorem witness_SettlingAfterAStopMakesEntriesStale_full :
    let s := crowded { state := .valid, centre := some 2, width := 20 }
    s.resting = true ∧ s.holdOn = true ∧ s.engine = none ∧ s.monitors.get 0 = pulse8 ∧ pulse8.stopRemembered = true ∧
    s.heard (fun i => s.plan.inScope i && decide ((s.entry i).state = .valid)) = [1, 4, 5] ∧
    16 - s.queue.length = 1 := by decide +kernel

theorem witness_StopTimerDeclaresAStop :
    settling.resting = true ∧ settling.engine = none ∧ (settling.monitors.get 0).stopTimer = some 133332 ∧
    133332 ≤ max settling.now 133332 ∧ max settling.now 133331 < 133332 ∧
    (settling.monitors.get 1).stopTimer = none := by decide +kernel

/-- An entry at the maximum age's last second; the mark's last microsecond before it, and its time. -/
def ageing : State :=
  { held with
    plan := { zonedPlan with maxAge := 600 }
    entries := State.reset.entries.set 1 { state := .valid, centre := some 2, width := 20, age := 599 } }

theorem witness_SecondMarkAgesTheMap :
    ageing.resting = true ∧ ageing.holdOn = true ∧ max ageing.now 999999 < (ageing.seconds + 1) * 1000000 ∧
    (ageing.seconds + 1) * 1000000 ≤ max ageing.now 1000000 ∧ ageing.plan.inScope 1 = true ∧
    (ageing.entry 1).age + 1 = ageing.plan.maxAge := by decide +kernel

/-- A debounce under way. -/
def bouncing : State := { ready with holdLine := { rawLow := true, asserted := false, timer := some 20000 } }

theorem witness_LinesKeepTheirTimes :
    bouncing.resting = true ∧ bouncing.holdLine.timer = some 20000 ∧ max bouncing.now 19999 < 20000 ∧
    20000 ≤ max bouncing.now 20000 ∧ bouncing.queue = [] ∧ bouncing.engine = none ∧ inFlight.resting = true := by
  decide +kernel

/-- A queue of `n` records, for the entries from 16 on. -/
def queued (n : Nat) : State :=
  { ready with queue := (List.range n).map fun i => ⟨Fin.ofNat 128 (16 + i), .plan⟩ }

/-- Out of scope, the subject, already queued, room for the last record, full. -/
theorem witness_TailRequestInFiveSteps :
    ready.plan.inScope 127 = false ∧ sweeping.plan.inScope 9 = true ∧ sweeping.engine.map (·.subject) = some 9 ∧
    ready.engine = none ∧ ready.plan.inScope 1 = true ∧
    (∃ r ∈ ({ ready with queue := [⟨1, .age⟩] } : State).queue, r.entry = 1) ∧
    (∀ r ∈ (queued 15).queue, r.entry ≠ 1) ∧ (queued 15).queue.length < 16 ∧
    (∀ r ∈ (queued 16).queue, r.entry ≠ 1) ∧ 16 ≤ (queued 16).queue.length := by decide +kernel

theorem witness_EngineTakesTheFirstEligibleRecord :
    sweeping.engine ≠ none ∧ held.holdOn = true ∧ transparent.active = false ∧
    (∀ r ∈ (queued 16).queue, (queued 16).settled (unitOf r.entry) = false) ∧
    waitingRecords.engine = none ∧ waitingRecords.holdOn = false ∧ waitingRecords.active = true ∧
    waitingRecords.queue = [⟨64, .plan⟩] ++ ⟨1, .drift⟩ :: [⟨4, .plan⟩] ∧
    waitingRecords.settled (unitOf 64) = false ∧ waitingRecords.settled (unitOf 1) = true ∧
    waitingRecords.wedgedOn (unitOf 1) = false ∧ waitingRecords.plan.inScope 1 = true ∧
    waitingRecords.queued.Nodup ∧ (∀ i, (waitingRecords.entry i).wanted = none) := by decide +kernel

/-- Fifteen records and two wanted entries. -/
theorem witness_ReofferFillsTheQueue :
    let s := ((queued 15).setEntry 1 { wanted := some .age }).setEntry 9 { wanted := some .drift }
    s.queue.length ≤ 16 ∧ s.reoffer.queue.length = 16 ∧ (s.entry 9).wanted = some .drift ∧
    (s.reoffer.entry 1).wanted = none ∧ (s.reoffer.entry 9).wanted = some .drift := by decide +kernel

/-- The last sector of the lay WRITE of `ctx`, and the place past it. -/
theorem witness_PatternWordsFollowTheFormula :
    layingHeld.port.state = .sweep 0 .running 700000 50 ∧ layingHeld.driveAnswers = true ∧
    layingHeld.engine.bind (·.flight) = some ⟨ctx.layTask, .lay, 0, 0⟩ ∧ 1 < ctx.sectorCount ∧ ctx.sectorCount ≤ 2 := by
  decide +kernel

/-- The lay WRITE of `ctx` left over, in each of its port states. -/
theorem witness_PatternWordsFollowTheFormula_leftOver :
    let lay : LaySupply := ctx.laySupply
    ∀ p ∈ [PortState.sweep 0 (.leftOver (some lay)) 700000 50, .aborting 0 (.leftOver (some lay)) 700000,
        .wedged 0 (some lay)],
      let s : State := { layingHeld with engine := none, port := { state := p, task := some ⟨ctx.layTask, true⟩ } }
      s.driveAnswers = true ∧ s.port.state = p ∧ 1 < lay.sectorCount ∧ lay.sectorCount ≤ 2 ∧
      s.laySector 1 = some (patternSector 3 21 2 1200) ∧ s.laySector 2 = none := by decide +kernel

/-- A lay WRITE is supplied with its K sectors and no more (R53). -/
theorem test_lay_supplies_its_sectors :
    layingHeld.laySector 1 = some (patternSector 3 21 2 1200) ∧ layingHeld.laySector 2 = none := by decide +kernel

theorem witness_WalkVisitsEveryPointOnce : 1 ≤ 1 ∧ 1 ≤ 64 ∧ 63 < 64 := by decide

theorem witness_SmoothingWeightsNeighboursOnce :
    0 + 2 < [620, 68, 11].length ∧ 2 ≤ [620, 68].length ∧ [620].length = 1 ∧ ∀ x ∈ [620, 68, 11], x ≤ 620 := by decide

/-- A curve of one run at the low end and one of two points. -/
theorem witness_OpeningIsTheLongestNearestRun :
    1 ≤ 4 ∧ chooseRun (-8) 4 0 (runs [false, false]) = none ∧
    chooseRun (-8) 4 0 (runs [true, false, true, true]) = some (2, 3) := by decide

/-- A passing point at the limit itself beside a failing one just above it. -/
theorem witness_EdgesAndCentreAreRounded :
    0 ≤ 1 ∧ 1 < [5, 5].length ∧ 1024 ≤ 1024 ∧ 1024 < 1025 ∧ 0 ≤ (12 : Int) ∧ (-12 : Int) ≤ 0 := by decide

/-- An opening inside the curve of section 4.12, and one over a whole curve. -/
theorem witness_OpeningLiesWithinTheOffsets :
    (1 ≤ 2 ∧ 2 < [620, 68, 11, 32, 4446].length ∧
      smoothed [620, 68, 11, 32, 4446] 1 ≤ 1024 ∧ smoothed [620, 68, 11, 32, 4446] 2 ≤ 1024 ∧
      1024 < smoothed [620, 68, 11, 32, 4446] 0 ∧ 1024 < smoothed [620, 68, 11, 32, 4446] 3) ∧
    (0 ≤ 1 ∧ 1 < [5, 5].length ∧ smoothed [5, 5] 0 ≤ 20 ∧ smoothed [5, 5] 1 ≤ 20) := by decide

/-- No centre; a move of the maximum and one more; a candidate agreed with and not; a state other than SUSPECT. -/
theorem witness_JumpTestInFiveSteps :
    ((12 : Int) - 4).natAbs ≤ 8 ∧ 8 < ((13 : Int) - 4).natAbs ∧ ((17 : Int) - 20).natAbs ≤ 8 ∧
    8 < ((-10 : Int) - 20).natAbs ∧ EntryState.stale ≠ .suspect ∧ (some (20 : Int)) ≠ none := by decide

end Sys2Proof.Tests
end

section
/-! PROOFS. The sweep's statements: a tail request in its five steps (R44), and the walk of the points (R57, R58). -/

namespace Sys2Proof.Machine

/-! ### A tail request (R44) -/

section
variable (s : State)

theorem isSubject_eq_false_iff {i : EntryNo} : s.isSubject i = false ↔ ∀ c, s.engine = some c → c.subject ≠ i := by
  rw [← Bool.not_eq_true, isSubject_iff]
  exact not_exists.trans (forall_congr' fun _ => not_and)

theorem isQueued_eq_false_iff {i : EntryNo} : s.isQueued i = false ↔ ∀ r ∈ s.queue, r.entry ≠ i := by
  rw [← Bool.not_eq_true, isQueued_iff]
  exact not_exists.trans (forall_congr' fun _ => not_and)

theorem request_entry_ne {i k : EntryNo} (cause : Cause) (h : k ≠ i) : (s.request i cause).entry k = s.entry k := by
  unfold State.request
  split_ifs
  case pos | pos | pos => rfl
  case pos => exact State.entry_setEntry_ne _ _ h
  case neg => exact State.entry_setEntry_ne _ _ h

end

/-- Settles O51: each step's condition picks one of the `request_of_…` equations. -/
theorem tailRequestInFiveSteps : Obligations.TailRequestInFiveSteps := by
  intro s i cause
  refine ⟨?others, request_of_outOfScope s cause, ?subject, ?live⟩
  case others =>
    rintro _ rfl k hk
    exact request_entry_ne s cause hk
  case subject => exact fun _ hsub => request_of_subject s cause ((isSubject_iff s).2 hsub)
  case live =>
    intro hscope hother
    have hsub : s.isSubject i = false := (isSubject_eq_false_iff s).2 hother
    refine ⟨fun hdup => request_of_queued s cause ((isQueued_iff s).2 hdup), fun hnew => ?_⟩
    have hqueued : s.isQueued i = false := (isQueued_eq_false_iff s).2 hnew
    refine ⟨fun hroom => ?_, fun hfull => ?_⟩
    · rw [request_of_room s cause hscope hsub hqueued hroom]
      exact ⟨rfl, State.entry_setEntry_self _ _ _⟩
    · rw [request_of_full s cause hscope hsub hqueued hfull]
      exact ⟨rfl, State.entry_setEntry_self _ _ _⟩

/-! ### The CENTRE-OUT walk by position (R57) -/

/-- The index at position `k` of the CENTRE-OUT walk: the middle, then by turns the next above and the next below. -/
def centreOutIndex (n k : Nat) : Nat :=
  if k % 2 = 1 then (n - 1) / 2 + (k + 1) / 2 else (n - 1) / 2 - k / 2

@[simp] theorem centreOutIndex_zero (n : Nat) : centreOutIndex n 0 = (n - 1) / 2 := rfl

theorem centreOutIndex_odd (n j : Nat) : centreOutIndex n (2 * j + 1) = (n - 1) / 2 + (j + 1) := by
  rw [centreOutIndex, if_pos (by omega)]; omega

theorem centreOutIndex_even (n j : Nat) : centreOutIndex n (2 * j + 2) = (n - 1) / 2 - (j + 1) := by
  rw [centreOutIndex, if_neg (by omega)]; omega

theorem centreOutIndex_lt {n k : Nat} (h : k < n) : centreOutIndex n k < n := by
  unfold centreOutIndex
  split <;> omega

theorem centreOutIndex_inj {n j k : Nat} (hj : j < n) (hk : k < n) (h : centreOutIndex n j = centreOutIndex n k) :
    j = k := by
  unfold centreOutIndex at h
  split at h <;> split at h <;> omega

/-- What turn `k` of the CENTRE-OUT walk adds: the indices `k + 1` above and below the middle that exist (R57). -/
def centreOutTurn (n k : Nat) : List Nat :=
  (if (n - 1) / 2 + (k + 1) < n then [(n - 1) / 2 + (k + 1)] else []) ++
    (if k + 1 ≤ (n - 1) / 2 then [(n - 1) / 2 - (k + 1)] else [])

theorem centreOutWalk_eq_cons (n : Nat) :
    centreOutWalk n = (n - 1) / 2 :: (List.range n).flatMap (centreOutTurn n) := rfl

theorem centreOutTurn_both {n k : Nat} (h : 2 * k + 2 < n) :
    centreOutTurn n k = [centreOutIndex n (2 * k + 1), centreOutIndex n (2 * k + 2)] := by
  rw [centreOutTurn, if_pos (by omega), if_pos (by omega), centreOutIndex_odd, centreOutIndex_even]; rfl

theorem centreOutTurn_above {n k : Nat} (h : n = 2 * k + 2) :
    centreOutTurn n k = [centreOutIndex n (2 * k + 1)] := by
  rw [centreOutTurn, if_pos (by omega), if_neg (by omega), centreOutIndex_odd]; rfl

theorem centreOutTurn_none {n k : Nat} (h : n < 2 * k + 2) : centreOutTurn n k = [] := by
  rw [centreOutTurn, if_neg (by omega), if_neg (by omega)]; rfl

/-- After `j` turns the walk stands at position `2 * j`, or at its end. -/
theorem centreOutIndex_cons_turns {n : Nat} (hn : 1 ≤ n) (j : Nat) :
    (n - 1) / 2 :: (List.range j).flatMap (centreOutTurn n) =
      (List.range (min (2 * j + 1) n)).map (centreOutIndex n) := by
  induction j with
  | zero => simp [Nat.min_eq_left hn]
  | succ j ih =>
    rw [List.range_succ, List.flatMap_append, ← List.cons_append, ih, List.flatMap_singleton]
    obtain h | h | h : 2 * j + 2 < n ∨ n = 2 * j + 2 ∨ n < 2 * j + 2 := by omega
    · rw [centreOutTurn_both h, Nat.min_eq_left (by omega), Nat.min_eq_left (by omega)]
      simp [Nat.mul_add, List.range_succ]
    · rw [centreOutTurn_above h, Nat.min_eq_left (by omega), Nat.min_eq_right (by omega)]
      simp [h, List.range_succ]
    · rw [centreOutTurn_none h, Nat.min_eq_right (by omega), Nat.min_eq_right (by omega), List.append_nil]

theorem centreOutWalk_eq_map {n : Nat} (hn : 1 ≤ n) : centreOutWalk n = (List.range n).map (centreOutIndex n) := by
  rw [centreOutWalk_eq_cons, centreOutIndex_cons_turns hn, Nat.min_eq_right (by omega)]

theorem centreOutWalk_getElem? {n k : Nat} (hk : k < n) : (centreOutWalk n)[k]? = some (centreOutIndex n k) := by
  rw [centreOutWalk_eq_map (by omega), List.getElem?_map, List.getElem?_range hk, Option.map_some]

/-! ### Every walk is a permutation of the point indices (R57, R58) -/

theorem centreOutWalk_perm {n : Nat} (hn : 1 ≤ n) : (centreOutWalk n).Perm (List.range n) := by
  rw [centreOutWalk_eq_map hn]
  have hnodup : ((List.range n).map (centreOutIndex n)).Nodup :=
    List.Nodup.map_on (fun j hj k hk => centreOutIndex_inj (List.mem_range.1 hj) (List.mem_range.1 hk)) List.nodup_range
  have hsubset : (List.range n).map (centreOutIndex n) ⊆ List.range n := by
    intro x hx
    obtain ⟨k, hk, rfl⟩ := List.mem_map.1 hx
    exact List.mem_range.2 (centreOutIndex_lt (List.mem_range.1 hk))
  exact (hnodup.subperm hsubset).perm_of_length_le (by simp)

theorem walk_perm (o : Order) {n : Nat} (hn : 1 ≤ n) : (walk o n).Perm (List.range n) := by
  cases o with
  | ascending => exact .refl _
  | descending => exact List.reverse_perm _
  | centreOut => exact centreOutWalk_perm hn

theorem passWalk_eq (o : Order) (mirror : Bool) (n p : Nat) :
    passWalk o mirror n p = if mirror = true ∧ p % 2 = 0 then (walk o n).reverse else walk o n := by
  simp [passWalk]

theorem passWalk_perm (o : Order) (mirror : Bool) {n : Nat} (p : Nat) (hn : 1 ≤ n) :
    (passWalk o mirror n p).Perm (List.range n) := by
  rw [passWalk_eq]
  split
  · exact (List.reverse_perm _).trans (walk_perm o hn)
  · exact walk_perm o hn

/-- Settles O55, from the CENTRE-OUT walk by position and the permutation each pass makes. -/
theorem walkVisitsEveryPointOnce : Obligations.WalkVisitsEveryPointOnce := by
  intro n hn
  refine ⟨rfl, rfl, rfl, fun k _ hk => centreOutWalk_getElem? hk, fun o mirror p => ?_⟩
  exact ⟨passWalk_perm o mirror p hn, passWalk_eq o mirror n p⟩

end Sys2Proof.Machine
end

section
/-! PROOFS. The fit's statements: smoothing (R72), the opening (R71, R73 to R76), edges and centre (R77 to R80), and the
jump test (R83). -/

namespace Sys2Proof.Machine

/-! ### The smoothed value (R72) -/

section
variable (e : List Nat)

theorem smoothed_inside {i : Nat} (h : i + 2 < e.length) : smoothed e (i + 1) = e[i] + 2 * e[i + 1] + e[i + 2] := by
  simp [smoothed, h, show i < e.length by omega, show i + 1 < e.length by omega]

theorem smoothed_first (h : 2 ≤ e.length) : smoothed e 0 = 3 * e[0] + e[1] := by
  have hmid : e.getD 0 0 = e[0] := List.getD_eq_getElem _ _ _
  have habove : e.getD 1 0 = e[1] := List.getD_eq_getElem _ _ _
  simp only [smoothed, hmid, habove, if_true, Nat.zero_add, if_pos (show 1 < e.length by omega)]
  omega

theorem smoothed_last (h : 2 ≤ e.length) :
    smoothed e (e.length - 1) = e[e.length - 2] + 3 * e[e.length - 1] := by
  have hbelow : e.getD (e.length - 2) 0 = e[e.length - 2] := List.getD_eq_getElem _ _ _
  have hmid : e.getD (e.length - 1) 0 = e[e.length - 1] := List.getD_eq_getElem _ _ _
  simp only [smoothed, Nat.sub_sub, hbelow, hmid, if_neg (show e.length - 1 ≠ 0 by omega),
    if_neg (show ¬ e.length - 1 + 1 < e.length by omega)]
  omega

theorem smoothed_only (h : e.length = 1) : smoothed e 0 = 4 * e[0] := by
  have hmid : e.getD 0 0 = e[0] := List.getD_eq_getElem _ _ _
  simp only [smoothed, hmid, if_true, if_neg (show ¬ 0 + 1 < e.length by omega)]
  omega

theorem smoothed_le {b : Nat} (hb : ∀ x ∈ e, x ≤ b) (i : Nat) : smoothed e i ≤ 4 * b := by
  have hpoint (j : Nat) : e.getD j 0 ≤ b := by
    obtain hj | hj := lt_or_ge j e.length
    · rw [List.getD_eq_getElem _ _ hj]; exact hb _ (List.getElem_mem hj)
    · rw [List.getD_eq_default _ _ hj]; exact Nat.zero_le b
  have hmid := hpoint i
  have hbelow := hpoint (i - 1)
  have habove := hpoint (i + 1)
  simp only [smoothed]
  split_ifs <;> omega

end

/-- Settles O56, by the place of the point: inside, at either end, or alone. -/
theorem smoothingWeightsNeighboursOnce : Obligations.SmoothingWeightsNeighboursOnce := fun e =>
  ⟨fun _ h => smoothed_inside e h, fun h => ⟨smoothed_first e h, smoothed_last e h⟩, smoothed_only e,
    fun _ hb i _ => smoothed_le e hb i⟩

/-! ### The runs of a curve (R74) -/

section
variable {pass bs : List Bool} {a b i : Nat} {opened : Option Nat}

/-- A run of R74: consecutive passing points with a failing point or the curve's end on each side. -/
structure IsRun (pass : List Bool) (a b : Nat) : Prop where
  le : a ≤ b
  passes : ∀ i, a ≤ i → i ≤ b → pass[i]? = some true
  below : ∀ i, i + 1 = a → pass[i]? = some false
  above : b + 1 < pass.length → pass[b + 1]? = some false

theorem IsRun.lt_length (h : IsRun pass a b) : b < pass.length :=
  (List.getElem?_eq_some_iff.1 (h.passes b h.le le_rfl)).1

theorem IsRun.last_le {a' b' : Nat} (h : IsRun pass a b) (h' : IsRun pass a' b') (ha'b : a' ≤ b) : b' ≤ b := by
  by_contra hlt
  have hfails := h.above (by have := h'.lt_length; omega)
  have hpasses := h'.passes (b + 1) (by omega) (by omega)
  simp [hfails] at hpasses

theorem IsRun.le_first {a' b' : Nat} (h : IsRun pass a b) (h' : IsRun pass a' b') (hab' : a ≤ b') : a ≤ a' := by
  by_contra hlt
  have hfails := h.below (a - 1) (by omega)
  have hpasses := h'.passes (a - 1) (by omega) (by omega)
  simp [hfails] at hpasses

/-- Runs do not overlap: two that meet are the same (R74). -/
theorem IsRun.eq_of_meet {a' b' : Nat} (h : IsRun pass a b) (h' : IsRun pass a' b') (hab' : a ≤ b') (ha'b : a' ≤ b) :
    a' = a ∧ b' = b :=
  ⟨le_antisymm (h'.le_first h ha'b) (h.le_first h' hab'), le_antisymm (h.last_le h' ha'b) (h'.last_le h hab')⟩

/-- The runs that begin at or above a run's first point are that run and those that begin above its last. -/
theorem IsRun.from_first_iff (h : IsRun pass a b) (r : Nat × Nat) :
    IsRun pass r.1 r.2 ∧ a ≤ r.1 ↔ r = (a, b) ∨ (IsRun pass r.1 r.2 ∧ b + 1 ≤ r.1) := by
  constructor
  · rintro ⟨hr, hle⟩
    obtain hin | hout := le_or_gt r.1 b
    · exact .inl (Prod.ext_iff.2 (h.eq_of_meet hr (hle.trans hr.le) hin))
    · exact .inr ⟨hr, hout⟩
  · rintro (rfl | ⟨hr, hle⟩)
    · exact ⟨h, le_rfl⟩
    · exact ⟨hr, by have := h.le; omega⟩

/-- What `opened` says of the points below index `i`: the last of them fails, or they pass from `a` on, where a run
begins. -/
def OpenAt (pass : List Bool) (i : Nat) : Option Nat → Prop
  | none => ∀ k, k + 1 = i → pass[k]? = some false
  | some a => a < i ∧ (∀ k, a ≤ k → k < i → pass[k]? = some true) ∧ ∀ k, k + 1 = a → pass[k]? = some false

theorem openAt_start : OpenAt pass 0 none := fun _ hk => absurd hk (by omega)

theorem OpenAt.extend (h : OpenAt pass i (some a)) (hi : pass[i]? = some true) : OpenAt pass (i + 1) (some a) := by
  obtain ⟨hlt, hpasses, hbelow⟩ := h
  refine ⟨by omega, fun k hak hki => ?_, hbelow⟩
  obtain rfl | hlt : k = i ∨ k < i := by omega
  · exact hi
  · exact hpasses k hak hlt

theorem OpenAt.begin (h : OpenAt pass i none) (hi : pass[i]? = some true) : OpenAt pass (i + 1) (some i) := by
  refine ⟨by omega, fun k hik hki => ?_, h⟩
  obtain rfl : k = i := by omega
  exact hi

theorem openAt_none_succ (hi : pass[i]? = some false) : OpenAt pass (i + 1) none := by
  intro k hk
  obtain rfl : k = i := by omega
  exact hi

/-- An open run ends below a failing point or at the curve's end. -/
theorem OpenAt.isRun (h : OpenAt pass i (some a)) (hend : i < pass.length → pass[i]? = some false) :
    IsRun pass a (i - 1) := by
  obtain ⟨hlt, hpasses, hbelow⟩ := h
  have hi : i - 1 + 1 = i := by omega
  exact ⟨by omega, fun k hak hki => hpasses k hak (by omega), hbelow, by rwa [hi]⟩

theorem OpenAt.mem_run_iff (h : OpenAt pass i (some a)) (hend : i < pass.length → pass[i]? = some false)
    (r : Nat × Nat) : IsRun pass r.1 r.2 ∧ a ≤ r.1 ↔ r = (a, i - 1) ∨ (IsRun pass r.1 r.2 ∧ i ≤ r.1) := by
  have hi : i - 1 + 1 = i := by have := h.1; omega
  rw [(h.isRun hend).from_first_iff, hi]

/-- No run begins at a point that does not pass. -/
theorem IsRun.from_succ_iff (hi : pass[i]? ≠ some true) (r : Nat × Nat) :
    IsRun pass r.1 r.2 ∧ i ≤ r.1 ↔ IsRun pass r.1 r.2 ∧ i + 1 ≤ r.1 := by
  refine and_congr_right fun hr => ⟨fun hle => lt_of_le_of_ne hle ?_, Nat.le_of_succ_le⟩
  rintro rfl
  exact hi (hr.passes r.1 le_rfl hr.le)

/-- The scan from index `i` finds exactly the runs that begin there or above, or at the open run's first point. -/
theorem mem_runsFrom_iff (hbs : pass.drop i = bs) (ho : OpenAt pass i opened) (r : Nat × Nat) :
    r ∈ runsFrom i opened bs ↔ IsRun pass r.1 r.2 ∧ opened.getD i ≤ r.1 := by
  induction bs generalizing i opened with
  | nil =>
    have hlen : pass.length ≤ i := List.drop_eq_nil_iff.1 hbs
    have hout : ¬ (IsRun pass r.1 r.2 ∧ i ≤ r.1) := by
      rintro ⟨hr, hle⟩
      have := hr.le; have := hr.lt_length; omega
    cases opened with
    | none => simpa [runsFrom] using hout
    | some a => simp [runsFrom, ho.mem_run_iff (by omega), hout]
  | cons x bs ih =>
    have hi : pass[i]? = some x := by simpa using congrArg List.head? hbs
    have hrest : pass.drop (i + 1) = bs := by simpa using congrArg List.tail hbs
    match x, opened with
    | true, none => exact ih hrest (ho.begin hi)
    | true, some a => exact ih hrest (ho.extend hi)
    | false, none =>
      exact (ih hrest (openAt_none_succ hi)).trans (IsRun.from_succ_iff (by simp [hi]) r).symm
    | false, some a =>
      have htail := ih hrest (openAt_none_succ hi)
      simp only [runsFrom, List.mem_cons, htail, Option.getD_none, Option.getD_some, ho.mem_run_iff fun _ => hi]
      rw [IsRun.from_succ_iff (i := i) (by simp [hi])]

theorem mem_runs_iff (r : Nat × Nat) : r ∈ runs pass ↔ IsRun pass r.1 r.2 := by
  simpa [runs] using mem_runsFrom_iff pass.drop_zero openAt_start r

theorem runsFrom_eq_nil_iff : runsFrom i opened bs = [] ↔ opened = none ∧ true ∉ bs := by
  induction bs generalizing i opened with
  | nil => cases opened <;> simp [runsFrom]
  | cons x bs ih => cases x <;> cases opened <;> simp [runsFrom, ih]

theorem runs_eq_nil_iff : runs pass = [] ↔ true ∉ pass := by simp [runs, runsFrom_eq_nil_iff]

theorem runsFrom_ascending (hbs : pass.drop i = bs) (ho : OpenAt pass i opened) :
    (runsFrom i opened bs).Pairwise fun r r' => r.1 < r'.1 := by
  induction bs generalizing i opened with
  | nil => cases opened <;> simp [runsFrom]
  | cons x bs ih =>
    have hi : pass[i]? = some x := by simpa using congrArg List.head? hbs
    have hrest : pass.drop (i + 1) = bs := by simpa using congrArg List.tail hbs
    match x, opened with
    | true, none => exact ih hrest (ho.begin hi)
    | true, some a => exact ih hrest (ho.extend hi)
    | false, none => exact ih hrest (openAt_none_succ hi)
    | false, some a =>
      refine List.pairwise_cons.2 ⟨fun r hr => ?_, ih hrest (openAt_none_succ hi)⟩
      obtain ⟨-, habove⟩ := (mem_runsFrom_iff hrest (openAt_none_succ hi) r).1 hr
      exact ho.1.trans (Nat.lt_of_succ_le habove)

theorem runs_ascending : (runs pass).Pairwise fun r r' => r.1 < r'.1 :=
  runsFrom_ascending pass.drop_zero openAt_start

end

/-! ### The choice among the runs (R74, R75) -/

section
variable {offset1 : Int} {step : Nat} {ref : Int} {r best x y : Nat × Nat} {rs : List (Nat × Nat)}

/-- Run `x` goes before run `y`: it is longer, or as long and nearer the reference, or as near too and lower (R74,
R75). -/
def Precedes (offset1 : Int) (step : Nat) (ref : Int) (x y : Nat × Nat) : Prop :=
  y.2 - y.1 < x.2 - x.1 ∨ (y.2 - y.1 = x.2 - x.1 ∧
    (midDistance offset1 step ref x < midDistance offset1 step ref y ∨
      (midDistance offset1 step ref x = midDistance offset1 step ref y ∧ x.1 < y.1)))

theorem Precedes.trans (hbx : Precedes offset1 step ref best x) (hxy : Precedes offset1 step ref x y) :
    Precedes offset1 step ref best y := by
  unfold Precedes at *
  omega

theorem precedes_of_runBetter (h : runBetter offset1 step ref best x = true) : Precedes offset1 step ref x best := by
  simp only [runBetter, Bool.or_eq_true, Bool.and_eq_true, decide_eq_true_eq] at h
  unfold Precedes
  omega

/-- A run that lies below the one compared with it and is not replaced by it goes before it. -/
theorem precedes_of_not_runBetter (h : ¬ runBetter offset1 step ref best x = true) (hlow : best.1 < x.1) :
    Precedes offset1 step ref best x := by
  simp only [runBetter, Bool.or_eq_true, Bool.and_eq_true, decide_eq_true_eq] at h
  unfold Precedes
  omega

/-- Among runs in ascending order the choice is one of them that goes before all others. -/
theorem chooseRun_cons_spec (hasc : (r :: rs).Pairwise fun x y => x.1 < y.1) :
    ∃ m ∈ r :: rs, chooseRun offset1 step ref (r :: rs) = some m ∧
      ∀ x ∈ r :: rs, x ≠ m → Precedes offset1 step ref m x := by
  induction rs generalizing r with
  | nil => exact ⟨r, by simp, rfl, fun x hx hne => absurd (List.mem_singleton.1 hx) hne⟩
  | cons x rs ih =>
    obtain ⟨hlow, htail⟩ := List.pairwise_cons.1 hasc
    by_cases hbetter : runBetter offset1 step ref r x = true
    · obtain ⟨m, hm, hchosen, hfirst⟩ := ih htail
      have hbeats := precedes_of_runBetter hbetter
      refine ⟨m, List.mem_cons_of_mem _ hm, by simpa [chooseRun, hbetter] using hchosen,
        List.forall_mem_cons.2 ⟨fun _ => ?_, hfirst⟩⟩
      obtain rfl | hne := eq_or_ne x m
      · exact hbeats
      · exact (hfirst x (by simp) hne).trans hbeats
    · have hsub : (r :: rs).Sublist (r :: x :: rs) := (List.sublist_cons_self x rs).cons_cons r
      obtain ⟨m, hm, hchosen, hfirst⟩ := ih (hasc.sublist hsub)
      have hbeats := precedes_of_not_runBetter hbetter (hlow x List.mem_cons_self)
      obtain ⟨hr, hothers⟩ := List.forall_mem_cons.1 hfirst
      refine ⟨m, hsub.subset hm, by simpa [chooseRun, hbetter] using hchosen,
        List.forall_mem_cons.2 ⟨hr, List.forall_mem_cons.2 ⟨fun _ => ?_, hothers⟩⟩⟩
      obtain rfl | hne := eq_or_ne r m
      · exact hbeats
      · exact (hr hne).trans hbeats

theorem chooseRun_eq_none_iff : chooseRun offset1 step ref rs = none ↔ rs = [] := by
  cases rs <;> simp [chooseRun]

theorem chooseRun_spec (hasc : rs.Pairwise fun x y => x.1 < y.1) (h : chooseRun offset1 step ref rs = some best) :
    best ∈ rs ∧ ∀ x ∈ rs, x ≠ best → Precedes offset1 step ref best x := by
  cases rs with
  | nil => simp [chooseRun] at h
  | cons r rs =>
    obtain ⟨m, hm, hchosen, hfirst⟩ := chooseRun_cons_spec (offset1 := offset1) (step := step) (ref := ref) hasc
    obtain rfl : m = best := Option.some.inj (hchosen.symm.trans h)
    exact ⟨hm, hfirst⟩

end

/-! ### The fit (R71, R73, R76) -/

section
variable (c : Context)

theorem true_notMem_passing_iff {e : List Nat} {limit : Nat} :
    true ∉ passing e limit ↔ ∀ i, i < e.length → limit < smoothed e i := by
  simp [passing]

theorem fit_eq_noOpening_iff_choose :
    c.fit = .noOpening ↔ chooseRun c.offset1 c.step (c.priorCentre.getD 0)
      (runs (passing c.sums (fitLimit c.threshold c.sectorCount c.passes))) = none := by
  unfold Context.fit
  dsimp only
  split <;> simp_all

theorem fit_eq_noOpening_iff :
    c.fit = .noOpening ↔
      ∀ i, i < c.sums.length → fitLimit c.threshold c.sectorCount c.passes < smoothed c.sums i := by
  rw [fit_eq_noOpening_iff_choose, chooseRun_eq_none_iff, runs_eq_nil_iff, true_notMem_passing_iff]

theorem exists_run_of_fit_eq_found {o : Opening} {f : FitOutcome} (h : c.fit = .found o f) :
    ∃ r, chooseRun c.offset1 c.step (c.priorCentre.getD 0)
        (runs (passing c.sums (fitLimit c.threshold c.sectorCount c.passes))) = some r ∧
      o = measureOpening c.sums (fitLimit c.threshold c.sectorCount c.passes) c.offset1 c.step c.minWidth r ∧
      f = jumpTest o c.maxMove c.priorState c.priorCentre c.priorCandidate := by
  unfold Context.fit at h
  dsimp only at h
  split at h
  · cases h
  · next r hr => cases h; exact ⟨r, hr, rfl, rfl⟩

end

/-- Settles O57: the scan finds the runs in ascending order, so keeping the better of two keeps the lower of equals. -/
theorem openingIsTheLongestNearestRun : Obligations.OpeningIsTheLongestNearestRun := by
  refine ⟨fun c => ⟨fit_eq_noOpening_iff c, fun o f => exists_run_of_fit_eq_found c⟩, ?chosen⟩
  intro pass offset1 step ref _
  refine ⟨chooseRun_eq_none_iff.trans runs_eq_nil_iff, fun p q hchosen => ?_⟩
  obtain ⟨hmem, hfirst⟩ := chooseRun_spec runs_ascending hchosen
  have hrun : IsRun pass p q := (mem_runs_iff _).1 hmem
  refine ⟨⟨hrun.le, hrun.passes, hrun.below, hrun.above⟩, ?others⟩
  rintro a b ⟨hle, hpasses, hbelow, habove⟩
  exact hfirst (a, b) ((mem_runs_iff _).2 ⟨hle, hpasses, hbelow, habove⟩)

/-! ### Edges and centre (R77 to R80) -/

section
variable (e : List Nat) (limit step minWidth p q : Nat) (offset1 : Int)

theorem lowEdge_eq : lowEdge e limit offset1 step p = 4 * (offset1 + p * step) -
    (if p = 0 then 0 else edgeDisplacement step limit (smoothed e p) (smoothed e (p - 1)) : Nat) := by
  unfold lowEdge pointOffset
  split
  · next hp => simp [hp]
  · rfl

theorem highEdge_eq : highEdge e limit offset1 step q = 4 * (offset1 + q * step) +
    (if q + 1 = e.length then 0 else edgeDisplacement step limit (smoothed e q) (smoothed e (q + 1)) : Nat) := by
  unfold highEdge pointOffset
  split
  · simp
  · rfl

theorem clipOf_decide (low high : Prop) [Decidable low] [Decidable high] :
    clipOf (decide low) (decide high) =
      if low then (if high then .both else .low) else if high then .high else .none := by
  by_cases hlow : low <;> by_cases hhigh : high <;> simp [clipOf, hlow, hhigh]

end

section
variable {n v step limit sx sf : Nat}

/-- The rounded quotient is within a half of the quotient, a half below it included (R79). -/
theorem roundHalfDown_bounds (hv : 0 < v) :
    2 * n ≤ 2 * v * roundHalfDown n v + v ∧ 2 * v * roundHalfDown n v < 2 * n + v := by
  have hdiv : v * (n / v) + n % v = n := Nat.div_add_mod n v
  have hmod : n % v < v := Nat.mod_lt n hv
  have hround : 2 * v * roundHalfDown n v = 2 * (v * (n / v)) + if 2 * (n % v) > v then 2 * v else 0 := by
    unfold roundHalfDown; split <;> ring
  rw [hround]
  split <;> omega

theorem roundHalfDown_le {m : Nat} (hv : 0 < v) (hn : n ≤ v * m) : roundHalfDown n v ≤ m := by
  by_contra hgt
  have hmul : v * (m + 1) ≤ v * roundHalfDown n v := Nat.mul_le_mul_left v (by omega)
  have hlt := (roundHalfDown_bounds (n := n) hv).2
  rw [Nat.mul_assoc] at hlt
  rw [Nat.mul_succ] at hmul
  omega

theorem edgeDisplacement_le (hpass : sx ≤ limit) (hfail : limit < sf) :
    edgeDisplacement step limit sx sf ≤ 4 * step := by
  refine roundHalfDown_le (by omega) ?_
  rw [Nat.mul_comm (sf - sx)]
  exact Nat.mul_le_mul_left _ (by omega)

end

theorem middle_rounds (sum : Int) :
    8 * (middle sum).natAbs ≤ sum.natAbs + 3 ∧ sum.natAbs ≤ 8 * (middle sum).natAbs + 4 := by
  simp only [middle]
  split_ifs <;> omega

theorem middle_nonneg {sum : Int} (h : 0 ≤ sum) : 0 ≤ middle sum := by
  simp only [middle, if_neg (not_lt.2 h)]
  omega

theorem middle_nonpos {sum : Int} (h : sum ≤ 0) : middle sum ≤ 0 := by
  simp only [middle]
  split_ifs <;> omega

/-- Settles O58, from the edges' equations and the bounds of the two roundings. -/
theorem edgesAndCentreAreRounded : Obligations.EdgesAndCentreAreRounded := by
  refine ⟨?edges, ?displacement, ?centre⟩
  case edges =>
    intro e limit step minWidth p q offset1 _ _
    exact ⟨lowEdge_eq e limit step p offset1, highEdge_eq e limit step q offset1, rfl, clipOf_decide _ _⟩
  case displacement =>
    intro step limit sx sf hpass hfail
    obtain ⟨hlower, hupper⟩ := roundHalfDown_bounds (n := 4 * step * (limit - sx)) (v := sf - sx) (by omega)
    exact ⟨rfl, hlower, hupper, edgeDisplacement_le hpass hfail⟩
  case centre =>
    intro sum
    obtain ⟨hlower, hupper⟩ := middle_rounds sum
    exact ⟨hlower, hupper, middle_nonneg, middle_nonpos⟩

/-! ### The jump test (R83) -/

section
variable (o : Opening) (maxMove : Nat) (prior : EntryState) {c d : Int} (candidate : Option Int)

theorem commitOutcome_eq (q : Quality) :
    commitOutcome q = if q = .valid then FitOutcome.committed else .marginal := by
  cases q <;> rfl

theorem jumpTest_of_noCentre : jumpTest o maxMove prior none candidate = commitOutcome o.quality := rfl

theorem jumpTest_of_near (h : (o.centre - c).natAbs ≤ maxMove) :
    jumpTest o maxMove prior (some c) candidate = commitOutcome o.quality :=
  if_pos h

theorem jumpTest_of_suspect (h : maxMove < (o.centre - c).natAbs) :
    jumpTest o maxMove .suspect (some c) (some d) =
      if (o.centre - d).natAbs ≤ maxMove then .confirmed else .failedJump :=
  if_neg (not_le.2 h)

theorem jumpTest_of_moved (h : maxMove < (o.centre - c).natAbs) (hprior : prior ≠ .suspect) :
    jumpTest o maxMove prior (some c) candidate = .jump :=
  (if_neg (not_le.2 h)).trans (if_neg hprior)

end

theorem afterEnding_centre_of_commit {f : FitOutcome} (h : f ∈ [FitOutcome.committed, .marginal, .confirmed])
    (e : Entry) (c : Context) (o : Opening) : (e.afterEnding c (.fit (.found o f))).centre = some o.centre := by
  cases f with
  | committed | marginal | confirmed => rfl
  | jump | failedJump => simp at h

/-- Settles O60: each step's condition picks one of the `jumpTest_of_…` equations. -/
theorem jumpTestInFiveSteps : Obligations.JumpTestInFiveSteps := by
  intro o maxMove prior centre candidate _
  refine ⟨?noCentre, fun h e c => afterEnding_centre_of_commit h e c o, ?centre⟩
  case noCentre =>
    rintro rfl
    exact (jumpTest_of_noCentre o maxMove prior candidate).trans (commitOutcome_eq _)
  case centre =>
    rintro c rfl
    refine ⟨fun hnear => (jumpTest_of_near o maxMove prior candidate hnear).trans (commitOutcome_eq _), fun hfar => ?_⟩
    refine ⟨?suspect, jumpTest_of_moved o maxMove prior candidate hfar⟩
    rintro d rfl rfl
    have htest := jumpTest_of_suspect o maxMove (d := d) hfar
    exact ⟨fun hagrees => htest.trans (if_pos hagrees), fun hdiffers => htest.trans (if_neg (not_le.2 hdiffers))⟩

end Sys2Proof.Machine
end

section
/-! PROOFS. What a property of the state must keep so that every step keeps it: the induction over the effects of a
command, said once for every property that sees neither the bench slot nor the drive port. -/

namespace Sys2Proof.Machine

/-! ### What the effects do to entries and contexts -/

/-- The part of the state that the invariants of the map, the queue, the engine, the log, the plan and the monitors
read. -/
def State.core (s : State) :=
  (s.entries, s.queue, s.engine, s.log, s.nextSeq, s.snapNumber, s.snapshot, s.monitors, s.plan, s.blink, s.straps)

/-- An entry changes as drift, age and staleness change it: its ties, its place in the queue and what a sweep of it rests
on stay (R13 to R18). -/
structure Entry.Benign (e e' : Entry) : Prop where
  tied : e.Tied → e'.Tied
  measuring : e'.state = .measuring ↔ e.state = .measuring
  centre : e'.centre = e.centre
  laid : e'.laid = e.laid
  wanted : e'.wanted = e.wanted
  drift : e.state = .measuring → e'.drift = e.drift

theorem Entry.Benign.refl (e : Entry) : e.Benign e := ⟨id, .rfl, rfl, rfl, rfl, fun _ => rfl⟩

/-- A context differs in its cursor, its sums and its task in flight only (R58, R60, R61, R62). -/
def Context.Retasks (c c' : Context) : Prop :=
  ∃ pass position sums flight, c' = { c with pass := pass, position := position, sums := sums, flight := flight }

theorem driftAfter_le (op : Op) (k : Completion) {n : Nat} (h : n ≤ 255) : driftAfter op k n ≤ 255 := by
  rw [driftAfter_eq]
  split <;> split_ifs <;> omega

theorem benign_of_drift {e : Entry} (ht : e.trusted = true) (op : Op) (k : Completion) :
    e.Benign { e with drift := driftAfter op k e.drift } where
  tied h := { h with
    driftRange := driftAfter_le op k h.driftRange
    unmeasured := fun hu => by rw [trusted_iff] at ht; simp_all }
  measuring := .rfl
  centre := rfl
  laid := rfl
  wanted := rfl
  drift hm := by rw [trusted_iff] at ht; simp_all

/-- An entry that is neither MEASURING nor SUSPECT nor UNMEASURED may go STALE (R14, R16, R17, R18). -/
theorem benign_of_stale {e : Entry} (hs : e.state = .valid ∨ e.state = .marginal ∨ e.state = .failed) {d : Nat}
    (hd : e.drift ≤ 255 → d ≤ 255) : e.Benign { e with drift := d, state := .stale } where
  tied h :=
    { candidateIffSuspect := by rw [h.candidateIffSuspect]; rcases hs with hs | hs | hs <;> simp [hs]
      driftRange := hd h.driftRange
      retriesRange := h.retriesRange
      ageRange := h.ageRange
      noCentre := h.noCentre
      unmeasured := by simp
      measured := by simp }
  measuring := by rcases hs with hs | hs | hs <;> simp [hs]
  centre := rfl
  laid := rfl
  wanted := rfl
  drift hm := by simp [hm] at hs

theorem benign_of_older (e : Entry) : e.Benign e.older := by
  unfold Entry.older
  split
  · next hc =>
    exact {
      tied := fun h => { h with ageRange := Nat.min_le_left _ _, noCentre := fun (hn : e.centre = none) => by simp [hn] at hc }
      measuring := .rfl, centre := rfl, laid := rfl, wanted := rfl, drift := fun _ => rfl }
  · exact .refl e

/-! ### A property that every effect keeps -/

/-- What a property must keep to be kept by the events of the map, of plans and of endings, whether or not it looks at the
bench slot and the drive port: one clause for each operation that those events are made of. -/
structure EventKept (P : State → Prop) : Prop where
  side : ∀ {s t : State}, P s → t.core = s.core → t.slot = s.slot → t.port = s.port → P t
  benign : ∀ {s : State} (v : Vector Entry 128), (∀ i : EntryNo, (s.entry i).Benign v[i]) → P s → P (s.setEntries v)
  request : ∀ {s : State} (i : EntryNo) (c : Cause), P s → P (s.request i c)
  look : ∀ {s : State} (b : Bool), P s → P (s.look b)
  endSweep : ∀ {s : State} {c : Context} (g : Ending), s.engine = some c → g ≠ .abortedPlanClear →
    (∀ o, g = .fit (.found o .jump) → c.priorCentre ≠ none) → P s → P (s.endSweep g)
  patternLoss : ∀ {s : State} (i : EntryNo), P s → P (s.patternLoss i)
  clearEntries : ∀ {s : State} (gone : EntryNo → Bool), P s → P (s.clearEntries gone)
  applyScope : ∀ {s : State}, P s → P s.applyScope
  newPlan : ∀ {s : State} {p : Plan}, p.Ok → P s → P { s with plan := p }

/-- What a property that looks neither at the slot and the port nor at the monitors must keep to be kept by every step. -/
structure SweepKept (P : State → Prop) : Prop extends EventKept P where
  core : ∀ {s t : State}, P s → t.core = s.core → P t
  blink : ∀ {s : State} (f : Blink → Blink), P s → P (s.setBlink (s.blink.map f))
  snapshot : ∀ {s : State}, P s → P s.takeSnapshot
  retask : ∀ {s : State} {c c' : Context}, s.engine = some c → c.Retasks c' → P s → P (s.setEngine (some c'))
  laid : ∀ {s : State} {c c' : Context}, s.engine = some c → { c with phase := .sweeping }.Retasks c' → P s →
    P ((s.setEntry c.subject { s.entry c.subject with laid := true }).setEngine (some c'))
  powerOn : ∀ {s x : State} (transparent : Bool) (service : BitVec 8),
    exec (.powerOn transparent service) s = .next x → P x

/-- What a property that looks at the monitors must keep besides: what the monitors' events do (R144 to R152). -/
structure Kept (P : State → Prop) : Prop extends SweepKept P where
  pulse : ∀ {s : State} (u : UnitNo), P s → P (s.pulse u)
  stopTimer : ∀ {s : State} (u : UnitNo), P s → P (s.stopTimer u)
  spinDown : ∀ {s : State} (u : UnitNo), P s → P (s.spinDownIssued u)

theorem jump_priorCentre {c : Context} {o : Opening} (h : c.fit = .found o .jump) : c.priorCentre ≠ none := by
  intro hn
  obtain ⟨_, _, _, hj⟩ := exists_run_of_fit_eq_found c h
  rw [hn, jumpTest_of_noCentre, commitOutcome_eq] at hj
  split at hj <;> cases hj

/-! ### The plan a judgement takes (R161, R162) -/

theorem byteAt_le (b : List Byte) (i : Nat) : byteAt b i ≤ 255 := by
  unfold byteAt; have := (b.getD i 0).isLt; omega

theorem wordAt_le (b : List Byte) (i : Nat) : wordAt b i ≤ 65535 := by
  unfold wordAt; have := byteAt_le b i; have := byteAt_le b (i + 1); omega

theorem signedAt_range (b : List Byte) (i : Nat) : -128 ≤ signedAt b i ∧ signedAt b i ≤ 127 := by
  unfold signedAt
  have h := (b.getD i 0).toInt_lt
  have h' := (b.getD i 0).le_toInt
  generalize b.getD i 0 = x at *
  norm_num at h h'
  omega

theorem clampTo_range {lo hi : Nat} (h : lo ≤ hi) (n : Nat) : lo ≤ clampTo lo hi n ∧ clampTo lo hi n ≤ hi := by
  unfold clampTo; omega

/-- The clamped plan's row of zone `z` (R161). -/
theorem clamp_row (r : RawPlan) (z : ZoneNo) : r.clamp.zones[z] = clampedRow r z := by
  fin_cases z <;> rfl

theorem clampRow_inRange {z : Nat} {r : ZoneRow} (h : r.InRange) : (clampRow z r).InRange := by
  obtain ⟨hc, ht, -, -⟩ := h
  have hf := clampTo_range (show 1 ≤ 255 by omega) r.firstSector
  have hk := clampTo_range (show 1 ≤ 16 by omega) r.sectorCount
  refine ⟨?_, ht, hf.2, by show clampTo 1 16 r.sectorCount ≤ 255; omega⟩
  show (if z = 0 then 0 else r.firstCylinder) ≤ 65535
  split <;> omega

theorem parsePlan_row_inRange (b : List Byte) (z : ZoneNo) : ((parsePlan b).zones[z]).InRange := by
  have h (i : Nat) : (parseZoneRow b i).InRange := ⟨wordAt_le b _, wordAt_le b _, byteAt_le b _, byteAt_le b _⟩
  fin_cases z <;> exact h _

/-- A coherent plan as the clamps leave a sector's is a plan a take leaves (R161, R162). -/
theorem clamp_ok (b : List Byte) (h : (parsePlan b).clamp.incoherence = none) : (parsePlan b).clamp.Ok := by
  obtain ⟨h1, h4, hu, hs, ho⟩ := (coherent_iff _).1 h
  have hb := byteAt_le b
  have hw := wordAt_le b
  have hstep := clampTo_range (show 1 ≤ 16 by omega) (byteAt b 16)
  have hs1 := signedAt_range b 17
  have hs2 := signedAt_range b 18
  have ho1 : -127 ≤ (parsePlan b).clamp.offset1 ∧ (parsePlan b).clamp.offset1 ≤ 127 := by
    show -127 ≤ max (-127) (signedAt b 17) ∧ max (-127) (signedAt b 17) ≤ 127
    omega
  have ho2 : (parsePlan b).clamp.offset2 ≤ 127 ∧
      (parsePlan b).clamp.offset2 ≤ (parsePlan b).clamp.offset1 + 63 * (parsePlan b).clamp.step := by
    have : (parsePlan b).clamp.offset2 = min (max (-127) (signedAt b 18))
      ((parsePlan b).clamp.offset1 + 63 * (parsePlan b).clamp.step) := rfl
    omega
  have hcount : (parsePlan b).clamp.zoneCount = (parsePlan b).zoneCount := rfl
  exact {
    number := hw 4
    step := hstep
    offset1 := ho1
    offset2 := ⟨by omega, ho2⟩
    passes := clampTo_range (by omega) _
    threshold := Nat.min_le_left _ _
    minWidth := Nat.min_le_left _ _
    maxMove := clampTo_range (by omega) _
    driftLimit := ⟨Nat.le_max_left _ _, Nat.max_le.2 ⟨by omega, hb 23⟩⟩
    pattern := Nat.le_of_lt_succ (Nat.mod_lt _ (by omega))
    maxAge := hw 26
    settleCount := clampTo_range (by omega) _
    taskTimeout := ⟨Nat.le_max_left _ _, Nat.max_le.2 ⟨by omega, hb 28⟩⟩
    benchGrace := hb 29
    graceLimit := ⟨Nat.le_max_left _ _, Nat.max_le.2 ⟨by omega, hb 30⟩⟩
    rows := fun z => by
      rw [clamp_row]
      unfold clampedRow
      split
      · exact clampRow_inRange (parsePlan_row_inRange b z)
      · exact parsePlan_row_inRange b z
    definedRows := fun z hz => by
      have hin : rowClamped (parsePlan b).zoneCount z.val = true := by simp [rowClamped]; omega
      rw [clamp_row, clampedRow, if_pos hin]
      exact ⟨(clampTo_range (by omega) _).1, clampTo_range (by omega) _⟩
    zone0 := by
      have hin : rowClamped (parsePlan b).zoneCount (0 : ZoneNo).val = true := by simp [rowClamped]; omega
      show (clampedRow (parsePlan b) 0).firstCylinder = 0
      rw [clampedRow, if_pos hin]
      rfl
    zoneCount := ⟨h1, h4⟩
    ascending := fun z y hy hc => not_le.1 fun hn => hu ⟨z, y, hy, hc, hn⟩
    testInZone := fun z hz =>
      ⟨not_lt.1 fun hn => hs ⟨z, hz, .inl hn⟩, fun y hy hc => not_le.1 fun hn => hs ⟨z, hz, .inr ⟨y, hy, hc, hn⟩⟩⟩
    offsets := ho }

/-- A taken plan passes the clamps and the coherence tests (R161, R162, R163). -/
theorem judge_taken_ok {b : List Byte} {p : Plan} {clamped : Bool} (h : judge b = .taken p clamped) : p.Ok := by
  unfold judge at h
  split at h
  · cases h
  · dsimp only at h
    split at h
    · cases h
    · split at h
      · cases h
      · next hc => cases h; exact clamp_ok b hc

end Sys2Proof.Machine
end

section
/-! PROOFS. Every step keeps a property whose clauses (`Kept`) hold: the composite operations first, then the effects, the
work that ends a command, and the step. -/

namespace Sys2Proof.Machine

variable {P : State → Prop} {s : State}

theorem sweepTaskDone_engine {c : Context} (h : s.engine = some c) :
    s.sweepTaskDone.engine = some { c with flight := none } := by
  simp [State.sweepTaskDone, State.freePort, h]

theorem foldl_kept {α : Type} {f : State → α → State} (hf : ∀ s a, P s → P (f s a)) (l : List α) (h : P s) :
    P (l.foldl f s) :=
  foldl_keeps (R := fun s t => P s → P t) (fun _ => id) (fun a b => b ∘ a) f hf l s h

namespace EventKept

variable (K : EventKept P)
include K

/-! ### Events of the head map -/

/-- An entry changes benignly. -/
theorem setEntry {i : EntryNo} {e : Entry} (hb : (s.entry i).Benign e) (h : P s) : P (s.setEntry i e) := by
  refine K.benign _ (fun k => ?_) h
  show (s.entry k).Benign ((s.setEntry i e).entry k)
  rw [State.entry_setEntry]
  split
  · next hk => rw [hk]; exact hb
  · exact .refl _

theorem goStale (cause : Cause) (i : EntryNo) (h : P s) : P (State.goStale cause s i) := by
  unfold State.goStale
  split
  · next hc =>
    have ht := (trusted_iff _).1 (Bool.and_eq_true_iff.1 hc).2
    exact K.request i cause (K.setEntry (benign_of_stale (by tauto) id) h)
  · exact h

theorem staleness (u : UnitNo) (h : P s) : P (s.staleness u) := foldl_kept (fun _ i => K.goStale .spinUp i) _ h

theorem testAge (i : EntryNo) (h : P s) : P (s.testAge i) := by
  unfold State.testAge
  split
  · exact K.goStale .age i h
  · exact h

theorem queueOne (i : EntryNo) (h : P s) : P (s.queueOne i) := by
  unfold State.queueOne
  dsimp only
  split
  · refine K.request i .plan (K.setEntry ?_ h)
    split
    · next hf => exact benign_of_stale (.inr (.inr hf)) id
    · exact .refl _
  · exact h

theorem driftEvent (i : EntryNo) (op : Op) (k : Completion) (h : P s) : P (s.driftEvent i op k) := by
  unfold State.driftEvent
  split
  · next hc =>
    have ht := (Bool.and_eq_true_iff.1 hc).2
    dsimp only
    split
    · have hs := (trusted_iff _).1 ht
      exact K.look false (K.request i .drift (K.setEntry (benign_of_stale (by tauto) (driftAfter_le op k)) h))
    · exact K.setEntry (benign_of_drift ht op k) h
  · exact h

theorem markSecond (h : P s) : P s.markSecond := by
  have haged : P (({ s with seconds := s.seconds + 1 } : State).mapEntries fun _ e => e.older) := by
    refine K.benign _ (fun i => ?_) (K.side h rfl rfl rfl)
    simpa [State.entry] using benign_of_older (s.entry i)
  unfold State.markSecond
  exact K.look false (foldl_kept (fun _ i => K.testAge i) allEntries haged)

/-! ### Plans -/

theorem applyActions (h : P s) : P s.applyActions := by
  unfold State.applyActions
  have hqueued : P (if s.plan.actions.queueAll then allEntries.foldl State.queueOne s else s) := by
    split
    · exact foldl_kept (fun _ i => K.queueOne i) _ h
    · exact h
  exact K.side hqueued rfl rfl rfl

theorem setSwmark (w : Swmark) (h : P s) : P (s.setSwmark w) := K.side h rfl rfl rfl

theorem takePlan {p : Plan} (hp : p.Ok) (h : P s) : P (s.takePlan p) := by
  have hscoped := K.applyScope (K.clearEntries (fun i => redefines s.plan p (zoneOf i)) (K.newPlan hp h))
  have hcleared := K.clearEntries (fun _ => true) hscoped
  have hmapped : P (State.applyScope (State.redefineZones { s with plan := p } s.plan)).applyClearMap := by
    unfold State.applyClearMap
    split
    · exact hcleared
    · exact hscoped
  unfold State.takePlan
  exact K.look _ (K.setSwmark _ (K.applyActions hmapped))

theorem judgeCopy (h : P s) : P s.judgeCopy := by
  unfold State.judgeCopy
  dsimp only
  split
  · split
    · next hj => exact K.takePlan (judge_taken_ok hj) (K.side h rfl rfl rfl)
    all_goals exact K.side h rfl rfl rfl
  · exact K.side h rfl rfl rfl

/-! ### Endings -/

/-- An ending that is neither a fit's nor a clear's. -/
theorem endSweep_unfitted (g : Ending) (hg : (∀ r, g ≠ .fit r) ∧ g ≠ .abortedPlanClear) (h : P s) : P (s.endSweep g) := by
  cases he : s.engine with
  | none => rwa [endSweep_of_idle s g he]
  | some c => exact K.endSweep g he hg.2 (fun o ho => absurd ho (hg.1 _)) h

theorem endSweepOn (u : UnitNo) (g : Ending) (hg : (∀ r, g ≠ .fit r) ∧ g ≠ .abortedPlanClear) (h : P s) : P (s.endSweepOn u g) := by
  unfold State.endSweepOn
  split
  · exact h
  · split
    · exact K.endSweep_unfitted g hg h
    · exact h

/-! ### The monitors' events, for a property that does not look at the monitors -/

section
variable (monitors : ∀ {s : State} (m : PerUnit Monitor), P s → P (s.setMonitors m))
include monitors

theorem pulseOf (u : UnitNo) (h : P s) : P (s.pulse u) := by
  unfold State.pulse
  dsimp only
  split
  · split
    · exact monitors _ h
    · exact K.endSweepOn _ _ (by simp) (monitors _ h)
    · split
      · exact K.look _ (monitors _ (K.staleness _ (monitors _ h)))
      · exact K.look _ (monitors _ h)
  · exact h

theorem stopTimerOf (u : UnitNo) (h : P s) : P (s.stopTimer u) := by
  unfold State.stopTimer
  dsimp only
  split
  · exact K.endSweepOn _ _ (by simp) (monitors _ h)
  · exact h

theorem spinDownOf (u : UnitNo) (h : P s) : P (s.spinDownIssued u) := K.endSweepOn _ _ (by simp) (monitors _ h)

end

/-- What issuing a task does inside the part (R121, R122). -/
theorem issueEffectsOf (spinDown : ∀ {s : State} (u : UnitNo), P s → P (s.spinDownIssued u)) (t : Task) (h : P s) :
    P (s.issueEffects t) := by
  unfold State.issueEffects
  split
  · split
    · exact foldl_kept (fun _ i => K.patternLoss i) _ h
    · exact h
  · exact spinDown _ h
  all_goals exact h

omit K in
/-- A property that looks at neither the map nor the queue, and that looks and endings keep. -/
theorem ofEndings (side : ∀ {s t : State}, P s → t.core = s.core → t.slot = s.slot → t.port = s.port → P t)
    (queue : ∀ {s t : State}, SameButQueue s t → P s → P t) (look : ∀ {s : State} (b : Bool), P s → P (s.look b))
    (ends : ∀ {s : State} (g : Ending), P s → P (s.endSweepNoLook g))
    (newPlan : ∀ {s : State} {p : Plan}, p.Ok → P s → P { s with plan := p }) : EventKept P := by
  have endSweep {s : State} (g : Ending) (h : P s) : P (s.endSweep g) := by
    unfold State.endSweep
    split
    · exact h
    · exact look true (ends g h)
  refine ⟨side, fun v _ h => queue ⟨_, v, rfl⟩ h, fun i c h => queue (request_frame _ i c) h, look,
    fun g _ _ _ => endSweep g, fun {s} i h => ?_, fun {s} gone h => ?_, fun {s} h => ?_, newPlan⟩
  · have hx := queue (setEntry_frame s i { s.entry i with laid := false }) h
    unfold State.patternLoss
    dsimp only
    split
    · exact endSweep _ hx
    · exact hx
  · have hx := fun f q => queue ((mapEntries_frame s f).trans (setQueue_frame _ q)) h
    unfold State.clearEntries
    dsimp only
    refine queue (reoffer_frame _) ?_
    split
    · split
      · exact ends _ (hx _ _)
      · exact hx _ _
    · exact hx _ _
  · have hx := fun f q => queue ((mapEntries_frame s f).trans (setQueue_frame _ q)) h
    unfold State.applyScope
    dsimp only
    refine queue (reoffer_frame _) ?_
    split
    · split
      · exact ends _ (hx _ _)
      · exact hx _ _
    · exact hx _ _

end EventKept

namespace SweepKept

variable (K : SweepKept P)
include K

/-! ### Sweeps -/

theorem sweepTaskDone (h : P s) : P s.sweepTaskDone := by
  unfold State.sweepTaskDone
  refine K.core (s := s.setEngine (s.engine.map fun c => { c with flight := none })) ?_ rfl
  cases he : s.engine with
  | none => exact K.core h (by simp [State.core, he])
  | some c => exact K.retask he ⟨_, _, _, _, rfl⟩ h

theorem layDone {c : Context} (he : s.engine = some c) (st : Status) (h : P s) : P (s.layDone c st) := by
  unfold State.layDone
  cases st with
  | good => exact K.laid (c := { c with flight := none }) (sweepTaskDone_engine he) ⟨_, _, _, _, rfl⟩ (K.sweepTaskDone h)
  | error k => exact K.endSweep_unfitted _ (by simp) (K.sweepTaskDone h)

theorem pointDone {c : Context} (he : s.engine = some c) (f : Flight) (i : Nat) (st : Status) (h : P s) :
    P (s.pointDone c f i st) := by
  have hd := K.sweepTaskDone h
  have hde := sweepTaskDone_engine he
  unfold State.pointDone
  dsimp only
  split
  · next c' hc' =>
    refine K.retask hde ?_ hd
    unfold Context.advance at hc'
    split at hc'
    · cases hc'; exact ⟨_, _, _, _, rfl⟩
    · split at hc'
      · cases hc'; exact ⟨_, _, _, _, rfl⟩
      · cases hc'
  · refine K.endSweep (c := { c with flight := none, sums := addSum c.sums i (c.pointCharge f st) }) _ rfl (by simp)
      (fun o ho => ?_) (K.retask hde ⟨_, _, _, _, rfl⟩ hd)
    injection ho with ho
    exact jump_priorCentre ho

theorem abortingDone (w : Owner) (h : P s) : P (s.abortingDone w) := by
  cases w with
  | running => exact K.endSweep_unfitted _ (by simp) (K.sweepTaskDone h)
  | leftOver l => exact K.core h rfl

theorem wedge (u : UnitNo) (w : Owner) (h : P s) : P (s.wedge u w) := by
  cases w with
  | leftOver l => exact K.core h rfl
  | running =>
    refine K.endSweep_unfitted _ (by simp) ?_
    cases he : s.engine with
    | none => exact K.core h (by simp [State.core, he])
    | some c =>
      have hwedged : P (s.setPort { s.port with state := .wedged u Owner.running.lay }) := K.core h rfl
      have hcut := K.retask (c' := { c with flight := none }) (by simpa using he) ⟨_, _, _, _, rfl⟩ hwedged
      simpa [he] using hcut

theorem expireTask (u : UnitNo) (w : Owner) (e n : Nat) (h : P s) : P (s.expireTask u w e n) := by
  unfold State.expireTask
  split
  · exact K.core h rfl
  · exact K.abortingDone w h

theorem cableResets (h : P s) : P s.cableResets := by
  have hr : P s.resetBlocks := K.core h rfl
  unfold State.cableResets
  dsimp only
  split
  · exact K.endSweep_unfitted _ (by simp) hr
  · split
    · exact K.look false hr
    · exact hr

/-! ### Bench tasks -/

theorem releaseBench (b : BenchTask) (c : Completion) (h : P s) : P (s.releaseBench b c) := K.core h rfl

theorem issuePiece (b : BenchTask) (q : Sequencer) (h : P s) : P (s.issuePiece b q) := by
  obtain ⟨_, _, e⟩ := issuePiece_frame s b q
  rw [e]; exact K.core h rfl

theorem wholeDone (b : BenchTask) (k : Completion) (h : P s) : P (s.wholeDone b k) := by
  refine K.releaseBench _ _ ?_
  unfold State.watchCompletion State.watchGeometry
  split
  · exact K.driftEvent _ _ _ h
  · exact K.judgeCopy h
  all_goals
    dsimp only
    split
    · exact K.core h rfl
    · exact h

theorem pieceDone (b : BenchTask) (q : Sequencer) (p : Piece) (k : Completion) (a : Bool) (h : P s) :
    P (s.pieceDone b q p k a) := by
  have hd : P (s.pieceDrift b.task.op p k) := by
    unfold State.pieceDrift
    split
    · exact K.driftEvent _ _ _ h
    · exact h
  unfold State.pieceDone
  dsimp only
  split
  · exact K.releaseBench _ _ hd
  · split
    · split
      · exact K.releaseBench _ _ hd
      · exact K.issuePiece _ _ hd
    · exact K.releaseBench _ _ hd

theorem abortIssued (b : BenchTask) (moving : Bool) (h : P s) : P (s.abortIssued b moving) := by
  unfold State.abortIssued
  split
  · exact K.core h rfl
  · dsimp only
    split
    · split
      · exact K.pieceDone _ _ _ _ _ h
      · exact K.core h rfl
    all_goals exact K.wholeDone _ _ h

theorem localAborts (b : BenchTask) (l : List Nat) (moving : Bool) (h : P s) : P (s.localAborts b l moving) := by
  cases moving <;> exact K.core h rfl

theorem benchAborts (moving beforeRecord : Bool) (h : P s) : P (s.benchAborts moving beforeRecord) := by
  unfold State.benchAborts
  split
  · exact h
  · split
    · exact K.core h rfl
    · split
      · exact K.localAborts _ _ _ h
      all_goals exact h
    · exact K.abortIssued _ _ h
    · unfold State.completingAborts
      split
      · split
        · exact K.localAborts _ _ _ h
        · exact h
      all_goals exact h
    · exact h

theorem takeTask (t : Task) (h : P s) : P (s.takeTask t) := by
  unfold State.takeTask
  dsimp only
  split
  · split
    · exact K.core (K.snapshot (s := { s with counters := s.counters.bump (s.dispositionOf t).2 }) (K.core h rfl)) rfl
    · exact K.core h rfl
  all_goals exact K.core h rfl

/-! ### The monitors' events, for a property that does not look at the monitors -/

theorem kept (monitors : ∀ {s : State} (m : PerUnit Monitor), P s → P (s.setMonitors m)) : Kept P where
  toSweepKept := K
  pulse u h := K.pulseOf monitors u h
  stopTimer u h := K.stopTimerOf monitors u h
  spinDown u h := K.spinDownOf monitors u h

end SweepKept

namespace Kept

variable (K : Kept P)
include K

/-! ### The grants and the step -/

theorem issueEffects (t : Task) (h : P s) : P (s.issueEffects t) := K.issueEffectsOf (fun u h => K.spinDown u h) t h

theorem issueBench (b : BenchTask) (h : P s) : P (s.issueBench b) := by
  unfold State.issueBench
  split
  · exact K.issueEffects _ (K.core h rfl)
  · exact K.issueEffects _ (K.core h rfl)
  · exact K.core h rfl
  · exact K.issuePiece _ _ h
  · exact K.issueEffects _ (K.core h rfl)

theorem effect {x : State} (e : Effect s x) (h : P s) : P x := by
  cases e
  case nothing => exact h
  case driveChanges u d =>
    unfold State.driveChanges
    dsimp only
    split <;> exact K.core h rfl
  case wholeDone => exact K.wholeDone _ _ h
  case pieceDone => exact K.pieceDone _ _ _ _ _ h
  case benchAborts => exact K.benchAborts _ _ h
  case cableResets => exact K.cableResets h
  case comparatorSector he _ _ => exact K.retask he ⟨_, _, _, _, rfl⟩ h
  case layDone he _ _ => exact K.layDone he _ h
  case pointDone he _ _ => exact K.pointDone he _ _ _ h
  case abortingDone => exact K.abortingDone _ h
  case lateDone => exact K.look false (K.core h rfl)
  case taskExpires => exact K.expireTask _ _ _ _ h
  case secondExpires => exact K.wedge _ _ h
  case indexPulse u => exact K.pulse u (K.core h rfl)
  case stopTimer u => exact K.stopTimer u h
  case second => exact K.markSecond h
  case holdSettles =>
    unfold State.holdSettles
    dsimp only
    split
    · exact K.look false (K.core h rfl)
    · exact K.core h rfl
  case blinkEdge => exact K.blink _ h
  all_goals exact K.core h rfl

theorem arbitrate (h : P s) : P s.arbitrate := by
  unfold State.arbitrate
  split
  · split
    · exact K.issueBench _ (K.core h rfl)
    · split
      · next c he =>
        split
        · exact K.core (K.retask he (c' := { c with flight := some c.nextFlight }) ⟨_, _, _, _, rfl⟩ h) rfl
        · exact h
      · exact h
  all_goals exact h

theorem finish (h : P s) : P s.finish := by
  have htaken : P s.takePresented := by
    unfold State.takePresented
    split
    · exact h
    · split
      · exact K.takeTask _ (K.core h rfl)
      · exact h
  exact K.core (K.arbitrate htaken) (by simp [State.core, State.finish])

/-- Every step keeps a property with these clauses. -/
theorem step {s' : State} (hs : step s = .next s') (h : P s) : P s' :=
  step_keeps (P := P) (fun _ _ h => K.core h rfl) (fun _ _ h => K.core h rfl) (fun _ _ h e => K.effect e h) (fun _ => K.finish)
    (fun _ _ a b _ => K.powerOn a b) h hs

end Kept

end Sys2Proof.Machine
end

section
/-! PROOFS. The invariants that see neither the map nor the queue: the history (R100, R102, R173, R174), the plan in force
(R161, R162), the blink (R183) and the monitors (R142, R153). -/

namespace Sys2Proof.Machine

variable {P : State → Prop} {s : State}

/-! ### A property that sees neither the map nor the queue -/

/-- The part of the state that such a property reads. -/
def State.coreBesideMap (s : State) :=
  (s.engine, s.log, s.nextSeq, s.snapNumber, s.snapshot, s.monitors, s.plan, s.blink, s.straps)

/-- What such a property must keep to be kept by every step. -/
structure KeptBesideMap (P : State → Prop) : Prop where
  core : ∀ {s t : State}, P s → t.coreBesideMap = s.coreBesideMap → P t
  blink : ∀ {s : State} (f : Blink → Blink), P s → P (s.setBlink (s.blink.map f))
  snapshot : ∀ {s : State}, P s → P s.takeSnapshot
  takes : ∀ {s : State} {r : QueueRec} (b : Blink), s.engine = none → s.active = true → s.eligible r = true → P s →
    P { s with engine := some (s.buildContext r), blink := some b }
  ends : ∀ {s : State} {c : Context} (g : Ending), s.engine = some c → P s → P { s with
    engine := none, blink := none, nextSeq := s.nextSeq + 1
    log := appendLog s.log ⟨s.nextSeq, c.subject, c.cause, g.outcome, c.points, g.opening⟩ }
  setEngine : ∀ {s : State} {c c' : Context}, s.engine = some c → c'.subject = c.subject → P s →
    P (s.setEngine (some c'))
  newPlan : ∀ {s : State} {p : Plan}, p.Ok → P s → P { s with plan := p }
  powerOn : ∀ {s x : State} (transparent : Bool) (service : BitVec 8),
    exec (.powerOn transparent service) s = .next x → P x

namespace KeptBesideMap

variable (K : KeptBesideMap P)
include K

theorem sameButQueue {t : State} (f : SameButQueue s t) (h : P s) : P t := by
  obtain ⟨_, _, rfl⟩ := f; exact K.core h rfl

theorem look (b : Bool) (h : P s) : P (s.look b) := by
  rcases look_cases s b with e | ⟨r, hr, he, _, ha, e⟩
  · rwa [e]
  · rw [e]
    unfold State.takeRecord
    refine K.sameButQueue ((setEntry_frame _ _ _).trans (reoffer_frame _)) ?_
    exact K.core (K.takes ⟨true, s.now + Config.blinkHalf⟩ he ha (List.find?_some hr) h) rfl

theorem endSweepNoLook (g : Ending) (h : P s) : P (s.endSweepNoLook g) := by
  cases he : s.engine with
  | none => rwa [State.endSweepNoLook, he]
  | some c =>
    rw [endSweepNoLook_of_running s g he]
    exact K.sameButQueue (requeueSubject_frame _ _ _) (K.core (K.ends g he h) rfl)

theorem sweepKept : SweepKept P where
  toEventKept := EventKept.ofEndings (fun h e _ _ => K.core h (by simp_all [State.core, State.coreBesideMap]))
    (fun f h => K.sameButQueue f h) K.look K.endSweepNoLook K.newPlan
  core h e := K.core h (by simp_all [State.core, State.coreBesideMap])
  blink := K.blink
  snapshot := K.snapshot
  retask he hc h := by obtain ⟨_, _, _, _, rfl⟩ := hc; exact K.setEngine he rfl h
  laid he hc h := by
    obtain ⟨_, _, _, _, rfl⟩ := hc
    exact K.setEngine he rfl (K.sameButQueue (setEntry_frame _ _ _) h)
  powerOn := K.powerOn

end KeptBesideMap

theorem exec_powerOn {x : State} {transparent : Bool} {service : BitVec 8}
    (h : exec (.powerOn transparent service) s = .next x) : x = { State.reset with
      pending := s.pending
      straps := ⟨transparent, service⟩
      cableReset := s.cableReset
      driveShows := s.driveShows
      presented := s.presented
      holdLine := HoldLine.atPowerOn s.holdLine.rawLow } := by
  cases h; rfl

/-! ### The history -/

theorem reset_historyInv : State.reset.HistoryInv where
  atMost30 := by decide
  successive k h := absurd h (Nat.not_lt_zero k)
  snapRange := by decide
  emptySnapshot := by decide

/-- A history reads the log, its next number and the snapshot only. -/
theorem State.HistoryInv.congr {t : State} (h : s.HistoryInv) (hl : t.log = s.log) (hn : t.nextSeq = s.nextSeq)
    (hs : t.snapshot = s.snapshot) (hm : t.snapNumber = s.snapNumber) : t.HistoryInv := by
  obtain ⟨h1, h2, h3, h4⟩ := h
  refine ⟨by rwa [hl], fun k hk => ?_, by rwa [hm], by rw [hs, hm, h4]⟩
  have := h2 k (hl ▸ hk)
  simp only [hl, hn, this]

/-- The record of an ending takes the next number; from a full log the oldest leaves (R102). -/
theorem appendLog_successive {log : List ResultRec} {n : BitVec 16} {r : ResultRec} (hr : r.seq = n)
    (hlen : log.length ≤ 30)
    (h : ∀ k (h : k < log.length), (log[k]).seq = n - BitVec.ofNat 16 (log.length - k)) :
    (appendLog log r).length ≤ 30 ∧ ∀ k (h : k < (appendLog log r).length),
      ((appendLog log r)[k]).seq = n + 1 - BitVec.ofNat 16 ((appendLog log r).length - k) := by
  have one (m : Nat) : n + 1 - BitVec.ofNat 16 (m + 1) = n - BitVec.ofNat 16 m := by
    rw [BitVec.ofNat_add]; bv_omega
  have last : (appendLog log r).length ≤ 30 := by unfold appendLog Config.logCapacity; split <;> simp <;> omega
  refine ⟨last, fun k hk => ?_⟩
  unfold appendLog at hk ⊢
  split at hk
  · next hroom =>
    simp only [hroom, if_true, List.length_append, List.length_singleton] at hk ⊢
    rw [show log.length + 1 - k = (log.length - k) + 1 by omega, one, List.getElem_append]
    split
    · exact h k ‹_›
    · simp [hr, show log.length - k = 0 by omega]
  · next hfull =>
    simp only [hfull, if_false, List.length_append, List.length_singleton, List.length_tail] at hk ⊢
    have hpos : 0 < log.length := by unfold Config.logCapacity at hfull; omega
    rw [show log.length - 1 + 1 - k = (log.length - 1 - k) + 1 by omega, one, List.getElem_append]
    split
    · next hk' =>
      rw [List.length_tail] at hk'
      rw [List.getElem_tail, h (k + 1) (by omega), show log.length - (k + 1) = log.length - 1 - k by omega]
    · next hk' =>
      rw [List.length_tail] at hk'
      simp [hr, show log.length - 1 - k = 0 by omega]

theorem historyKept : KeptBesideMap State.HistoryInv where
  core h e := by
    simp only [State.coreBesideMap, Prod.mk.injEq] at e
    obtain ⟨_, hl, hn, hm, hs, _⟩ := e
    exact h.congr hl hn hs hm
  blink _ h := h.congr rfl rfl rfl rfl
  snapshot {s} h := by
    obtain ⟨h1, h2, h3, _⟩ := h
    refine ⟨h1, h2, ?_, ?_⟩ <;> simp only [State.takeSnapshot, nextSnapNumber]
    · split <;> omega
    · split <;> simp
  takes _ _ _ _ h := h.congr rfl rfl rfl rfl
  ends g _ h :=
    have ⟨hlen, hseq⟩ := appendLog_successive rfl h.atMost30 h.successive
    ⟨hlen, hseq, h.snapRange, h.emptySnapshot⟩
  setEngine _ _ h := h.congr rfl rfl rfl rfl
  newPlan _ h := h.congr rfl rfl rfl rfl
  powerOn _ _ h := by rw [exec_powerOn h]; exact reset_historyInv.congr rfl rfl rfl rfl

/-- Settles O8: only an ending writes the log, and only a snapshot its number. -/
theorem stepKeepsHistory : Obligations.StepKeepsHistory := fun _ _ h hs =>
  (historyKept.sweepKept.kept fun _ h => h.congr rfl rfl rfl rfl).step hs h

/-! ### The plan in force -/

theorem reset_planInv : State.reset.PlanInv := by
  refine ⟨?_, ?_, ?_, ?_, ?_, ?_, ?_, ?_, ?_, ?_, ?_, ?_, ?_, ?_, ?_, ?_, ?_, ?_, ?_, ?_, ?_, ?_⟩
  all_goals unfold State.reset
  case refine_16 => unfold ZoneRow.InRange; decide
  all_goals decide

theorem planKept : KeptBesideMap State.PlanInv where
  core h e := by
    simp only [State.coreBesideMap, Prod.mk.injEq] at e
    obtain ⟨_, _, _, _, _, _, hp, _⟩ := e
    unfold State.PlanInv; rw [hp]; exact h
  blink _ h := h
  snapshot h := h
  takes _ _ _ _ h := h
  ends _ _ h := h
  setEngine _ _ h := h
  newPlan hp _ := hp
  powerOn _ _ h := by rw [exec_powerOn h]; exact reset_planInv

/-- Settles O10: the plan in force changes by a take only, which takes what the clamps and the coherence tests let
through. -/
theorem stepKeepsPlan : Obligations.StepKeepsPlan := fun _ _ h hs =>
  (planKept.sweepKept.kept fun _ h => h).step hs h

/-! ### The blink and the pins -/

/-- The blink runs exactly while a sweep does (R183). -/
def State.BlinkInv (s : State) : Prop := s.blink.isSome ↔ s.engine.isSome

theorem blinkKept : KeptBesideMap State.BlinkInv where
  core h e := by
    simp only [State.coreBesideMap, Prod.mk.injEq] at e
    obtain ⟨he, _, _, _, _, _, _, hb, _⟩ := e
    unfold State.BlinkInv; rw [he, hb]; exact h
  blink _ h := by simpa [State.BlinkInv] using h
  snapshot h := h
  takes _ _ _ _ _ := by simp [State.BlinkInv]
  ends _ _ _ := by simp [State.BlinkInv]
  setEngine he _ h := by simpa [State.BlinkInv, he] using h
  newPlan _ h := h
  powerOn _ _ h := by rw [exec_powerOn h]; simp [State.BlinkInv, State.reset]

theorem blinkKept_kept : Kept State.BlinkInv := blinkKept.sweepKept.kept fun _ h => h

theorem powerOn_pinsInv {x : State} {transparent : Bool} {service : BitVec 8}
    (h : exec (.powerOn transparent service) s = .next x) : x.PinsInv := by
  rw [exec_powerOn h]
  constructor <;> simp [State.reset, PerUnit.get]

/-- Settles O5: every command but POWER_ON ends by driving the pins by their rules. -/
theorem stepKeepsPins : Obligations.StepKeepsPins := by
  intro s s' h hs
  unfold step at hs
  split at hs
  · cases hs; exact h
  · next i rest _ =>
    rcases exec_effect hs with ⟨a, b, rfl⟩ | ⟨t, x, _, hx, rfl⟩
    · exact powerOn_pinsInv hs
    · have hb : ({ s with pending := rest } : State).BlinkInv := h.blinkWhileSweeping
      have hfin := blinkKept_kept.finish (blinkKept_kept.effect hx (blinkKept.core hb rfl))
      refine drivePins_inv _ ?_
      simpa [State.BlinkInv, State.finish] using hfin

end Sys2Proof.Machine
end

section
/-! PROOFS. The sweep queue (R42 to R47): the re-offer in closed form, and the queue's invariant through requests, takes,
endings and clears. -/

namespace Sys2Proof.Machine

variable {s t : State}

/-! ### The re-offer (R46) -/

/-- The records that the wanted entries of `l` ask for, in the order of `l`. -/
def State.wantedRecs (s : State) (l : List EntryNo) : List QueueRec :=
  l.filterMap fun i => (s.entry i).wanted.map (QueueRec.mk i)

theorem mem_wantedRecs {l : List EntryNo} {r : QueueRec} :
    r ∈ s.wantedRecs l ↔ r.entry ∈ l ∧ (s.entry r.entry).wanted = some r.cause := by
  simp only [State.wantedRecs, List.mem_filterMap, Option.map_eq_some_iff]
  constructor
  · rintro ⟨i, hi, c, hc, rfl⟩; exact ⟨hi, hc⟩
  · rintro ⟨hi, hc⟩; exact ⟨_, hi, _, hc, rfl⟩

theorem wantedRecs_entries (l : List EntryNo) :
    ((s.wantedRecs l).map (·.entry)) = l.filter fun i => (s.entry i).wanted.isSome := by
  induction l with
  | nil => rfl
  | cons a l ih =>
    unfold State.wantedRecs at *
    cases h : (s.entry a).wanted <;> simp [h, ih]

theorem wantedRecs_congr {l : List EntryNo} (h : ∀ i ∈ l, t.entry i = s.entry i) : t.wantedRecs l = s.wantedRecs l :=
  List.filterMap_congr fun i hi => by rw [h i hi]

/-- The re-offer over a list of entries: their records join the queue in that order while there is room (R46). -/
theorem foldl_reofferOne (l : List EntryNo) (hn : l.Nodup) (s : State) :
    let added := (s.wantedRecs l).take (16 - s.queue.length)
    (l.foldl State.reofferOne s).queue = s.queue ++ added ∧
      ∀ i, (l.foldl State.reofferOne s).entry i =
        if i ∈ added.map (·.entry) then { s.entry i with wanted := none } else s.entry i := by
  induction l generalizing s with
  | nil => simp [State.wantedRecs]
  | cons a l ih =>
    obtain ⟨ha, hl⟩ := List.nodup_cons.1 hn
    rw [List.foldl_cons]
    cases hw : (s.entry a).wanted with
    | none =>
      have hrecs : s.wantedRecs (a :: l) = s.wantedRecs l := by simp [State.wantedRecs, hw]
      simpa [State.reofferOne, hw, hrecs] using ih hl s
    | some c =>
      have hrecs : s.wantedRecs (a :: l) = ⟨a, c⟩ :: s.wantedRecs l := by simp [State.wantedRecs, hw]
      by_cases hroom : s.queue.length < 16
      · have hone : s.reofferOne a = (s.setQueue (s.queue ++ [⟨a, c⟩])).setEntry a { s.entry a with wanted := none } := by
          simp [State.reofferOne, hw, Config.queueCapacity, hroom]
        obtain ⟨hq, he⟩ := ih hl (s.reofferOne a)
        have hrest : (s.reofferOne a).wantedRecs l = s.wantedRecs l := wantedRecs_congr fun i hi => by
          rw [hone, State.entry_setEntry_ne _ _ (by rintro rfl; exact ha hi)]; rfl
        have hroom' : 16 - s.queue.length = (16 - (s.reofferOne a).queue.length) + 1 := by
          rw [hone]; simp; omega
        rw [hrest] at hq he
        dsimp only
        rw [hrecs, hroom', List.take_succ_cons, hq]
        refine ⟨by rw [hone]; simp, fun i => ?_⟩
        rw [he i, hone]
        have hafter : a ∉ ((s.wantedRecs l).take (16 - (s.reofferOne a).queue.length)).map (·.entry) := fun hm =>
          ha (List.mem_of_mem_filter (wantedRecs_entries (s := s) l ▸ List.map_subset _ (List.take_subset _ _) hm))
        rw [hone] at hafter
        by_cases hi : i = a
        · simp [hi]
        · simp [State.entry_setEntry_ne _ _ hi, hi]
      · have hone : s.reofferOne a = s := by simp [State.reofferOne, hw, Config.queueCapacity, hroom]
        have hnone : 16 - s.queue.length = 0 := by omega
        have hl' := ih hl s
        rw [hone]
        simpa [hnone] using hl'

theorem wantedRecs_ascending : ((s.wantedRecs allEntries).map (·.entry)).Pairwise (· < ·) := by
  rw [wantedRecs_entries]
  exact (List.pairwise_lt_finRange 128).filter _

/-- What the front of an ordered list leaves out stands behind everything in it. -/
theorem lt_of_not_mem_take {α : Type} {R : α → α → Prop} {l : List α} (h : l.Pairwise R) {n : Nat} {x y : α}
    (hx : x ∈ l.take n) (hy : y ∈ l) (hn : y ∉ l.take n) : R x y := by
  rw [← List.take_append_drop n l] at h hy
  exact (List.pairwise_append.1 h).2.2 x hx y ((List.mem_append.1 hy).resolve_left hn)

/-- A wanted entry that the re-offer leaves out finds the queue full. -/
theorem full_of_not_mem_take {α : Type} {l : List α} {n : Nat} {y : α} (hy : y ∈ l) (hn : y ∉ l.take n) :
    (l.take n).length = n := by
  by_contra hlen
  rw [List.length_take] at hlen
  exact hn (by rwa [List.take_of_length_le (by omega)])

/-- Settles O53, from the re-offer's closed form. -/
theorem reofferFillsTheQueue : Obligations.ReofferFillsTheQueue := by
  intro s hlen
  obtain ⟨hq, he⟩ := foldl_reofferOne allEntries (List.nodup_finRange 128) s
  rw [show allEntries.foldl State.reofferOne s = s.reoffer from rfl] at hq he
  have hasc := List.pairwise_map.1 (wantedRecs_ascending (s := s))
  generalize hrecs : s.wantedRecs allEntries = recs at hq he hasc
  have hadded : (recs.take (16 - s.queue.length)).length ≤ 16 - s.queue.length := List.length_take_le _ _
  refine ⟨by rw [hq, List.length_append]; omega, recs.take (16 - s.queue.length), hq, ?_, ?_, ?_⟩
  · exact List.pairwise_map.2 (hasc.sublist (List.take_sublist _ _))
  · intro r hr
    refine ⟨(mem_wantedRecs.1 (hrecs ▸ List.mem_of_mem_take hr)).2, ?_⟩
    rw [he, if_pos (List.mem_map_of_mem hr)]
  · intro i hw hne
    obtain ⟨c, hc⟩ := Option.ne_none_iff_exists'.1 hw
    have hmem : (⟨i, c⟩ : QueueRec) ∈ recs := hrecs ▸ mem_wantedRecs.2 ⟨mem_allEntries i, hc⟩
    have hout : (⟨i, c⟩ : QueueRec) ∉ recs.take (16 - s.queue.length) := fun h => hne _ h rfl
    refine ⟨?_, ?_, fun r hr => lt_of_not_mem_take hasc hr hmem hout⟩
    · rw [hq, List.length_append, full_of_not_mem_take hmem hout]; omega
    · rw [he, if_neg]
      intro hi
      obtain ⟨r, hr, rfl⟩ := List.mem_map.1 hi
      exact hne r hr rfl

/-! ### The queue's invariant -/

/-- What the queue's invariant says while an operation still owes its re-offer: all but that the queue is full where an
entry is wanted. -/
structure State.QueueTied (s : State) : Prop where
  atMost16 : s.queue.length ≤ 16
  oneEach : s.queued.Nodup
  wantedOut : ∀ i, (s.entry i).wanted ≠ none → i ∉ s.queued
  subjectOut : ∀ c, s.engine = some c → c.subject ∉ s.queued ∧ (s.entry c.subject).wanted = none

theorem State.QueueInv.queueTied (h : s.QueueInv) : s.QueueTied :=
  ⟨h.atMost16, h.oneEach, fun i hi => (h.wantedWhenFull i hi).2, h.subjectOut⟩

theorem State.QueueTied.queueInv (h : s.QueueTied) (hf : ∀ i, (s.entry i).wanted ≠ none → s.queue.length = 16) :
    s.QueueInv :=
  ⟨h.atMost16, h.oneEach, fun i hi => ⟨hf i hi, h.wantedOut i hi⟩, h.subjectOut⟩

/-- The queue stays tied where records and wanted causes go and the sweep stays or goes. -/
theorem State.QueueTied.mono (h : s.QueueTied) (hq : t.queue.Sublist s.queue)
    (hw : ∀ i, (t.entry i).wanted ≠ none → (s.entry i).wanted ≠ none)
    (he : ∀ c, t.engine = some c → ∃ c', s.engine = some c' ∧ c'.subject = c.subject) : t.QueueTied := by
  have hsub : t.queued.Sublist s.queued := hq.map _
  refine ⟨hq.length_le.trans h.atMost16, h.oneEach.sublist hsub, fun i hi hm => ?_, fun c hc => ?_⟩
  · exact h.wantedOut i (hw i hi) (hsub.subset hm)
  · obtain ⟨c', hc', hs⟩ := he c hc
    obtain ⟨hout, hnone⟩ := h.subjectOut c' hc'
    rw [hs] at hout hnone
    exact ⟨fun hm => hout (hsub.subset hm), by_contra fun hn => hw _ hn hnone⟩

/-- The invariant reads the queue, the wanted causes and the subject only. -/
theorem State.QueueInv.congr (h : s.QueueInv) (hq : t.queue = s.queue)
    (hw : ∀ i, (t.entry i).wanted = (s.entry i).wanted)
    (he : ∀ c, t.engine = some c → ∃ c', s.engine = some c' ∧ c'.subject = c.subject) : t.QueueInv :=
  (h.queueTied.mono (by rw [hq]) (fun i => by rw [hw]; exact id) he).queueInv fun i hi => by
    rw [hq]; exact (h.wantedWhenFull i (hw i ▸ hi)).1

theorem mem_queued {i : EntryNo} : i ∈ s.queued ↔ s.isQueued i = true := by
  rw [isQueued_iff]; simp [State.queued]

/-- The re-offer pays what was owed (R46). -/
theorem State.QueueTied.reoffer (h : s.QueueTied) : s.reoffer.QueueInv := by
  obtain ⟨hq, he⟩ := foldl_reofferOne allEntries (List.nodup_finRange 128) s
  rw [show allEntries.foldl State.reofferOne s = s.reoffer from rfl] at hq he
  have hnodup : ((s.wantedRecs allEntries).map (·.entry)).Nodup :=
    wantedRecs_ascending.imp fun hlt heq => absurd heq (ne_of_lt hlt)
  have hwanted : ∀ r ∈ s.wantedRecs allEntries, (s.entry r.entry).wanted ≠ none := fun r hr => by
    rw [(mem_wantedRecs.1 hr).2]; simp
  have hall : ∀ i, (s.entry i).wanted ≠ none → ∃ r ∈ s.wantedRecs allEntries, r.entry = i := fun i hi => by
    obtain ⟨c, hc⟩ := Option.ne_none_iff_exists'.1 hi
    exact ⟨⟨i, c⟩, mem_wantedRecs.2 ⟨mem_allEntries i, hc⟩, rfl⟩
  generalize s.wantedRecs allEntries = recs at *
  generalize hadd : recs.take (16 - s.queue.length) = added at *
  have hsub : added.Sublist recs := hadd ▸ List.take_sublist _ _
  have hlen : added.length ≤ 16 - s.queue.length := hadd ▸ List.length_take_le _ _
  have h16 := h.atMost16
  have heng : s.reoffer.engine = s.engine := by obtain ⟨_, _, e⟩ := reoffer_frame s; rw [e]
  have hqd : s.reoffer.queued = s.queued ++ added.map (·.entry) := by simp [State.queued, hq]
  have hstill : ∀ i, (s.reoffer.entry i).wanted ≠ none →
      (s.entry i).wanted ≠ none ∧ i ∉ added.map (·.entry) := fun i hi => by
    rw [he] at hi
    split at hi
    · exact absurd rfl hi
    · exact ⟨hi, ‹_›⟩
  have hout : ∀ i ∈ added.map (·.entry), (s.entry i).wanted ≠ none := fun i hi => by
    obtain ⟨r, hr, rfl⟩ := List.mem_map.1 hi
    exact hwanted r (hsub.subset hr)
  refine State.QueueTied.queueInv ⟨by rw [hq, List.length_append]; omega, ?_, fun i hi => ?_, fun c hc => ?_⟩ fun i hi => ?_
  · rw [hqd, List.nodup_append]
    refine ⟨h.oneEach, hnodup.sublist (hsub.map _), fun i hi j hj hij => ?_⟩
    exact h.wantedOut j (hout j hj) (hij ▸ hi)
  · obtain ⟨hw, hnot⟩ := hstill i hi
    rw [hqd, List.mem_append]
    exact fun hm => hm.elim (h.wantedOut i hw) hnot
  · obtain ⟨hnq, hnw⟩ := h.subjectOut c (heng ▸ hc)
    have hnot : c.subject ∉ added.map (·.entry) := fun hm => hout _ hm hnw
    rw [hqd, List.mem_append, he, if_neg hnot]
    exact ⟨fun hm => hm.elim hnq hnot, hnw⟩
  · obtain ⟨hw, hnot⟩ := hstill i hi
    obtain ⟨r, hr, rfl⟩ := hall i hw
    have hout : r ∉ added := fun hm => hnot (List.mem_map_of_mem hm)
    rw [hq, List.length_append, ← hadd, full_of_not_mem_take hr (hadd ▸ hout)]
    omega

/-- A tail request keeps the invariant (R44). -/
theorem State.QueueInv.request (i : EntryNo) (c : Cause) (h : s.QueueInv) : (s.request i c).QueueInv := by
  by_cases hs : s.plan.inScope i = true
  swap
  · rwa [request_of_outOfScope s c (by simpa using hs)]
  by_cases hj : s.isSubject i = true
  · rwa [request_of_subject s c hj]
  by_cases hd : s.isQueued i = true
  · rwa [request_of_queued s c hd]
  have hnot : i ∉ s.queued := fun hm => hd (mem_queued.1 hm)
  have hne : ∀ c, s.engine = some c → c.subject ≠ i := (isSubject_eq_false_iff s).1 (by simpa using hj)
  by_cases hroom : s.queue.length < 16
  · have hnone : ∀ k, (s.entry k).wanted = none := fun k => by_contra fun hw => by
      have := (h.wantedWhenFull k hw).1; omega
    rw [request_of_room s c hs (by simpa using hj) (by simpa using hd) hroom]
    have hnone' : ∀ k, (((s.setQueue (s.queue ++ [⟨i, c⟩])).setEntry i { s.entry i with wanted := none }).entry k).wanted
        = none := fun k => by rw [State.entry_setEntry]; split <;> simp [hnone]
    refine State.QueueTied.queueInv ⟨?_, ?_, fun k hk => absurd (hnone' k) hk, fun c' hc' => ⟨?_, hnone' _⟩⟩
      fun k hk => absurd (hnone' k) hk
    · simp; omega
    · simpa [State.queued, List.nodup_append] using ⟨h.oneEach, fun r hr he => hnot (List.mem_map.2 ⟨r, hr, he⟩)⟩
    · have := (h.subjectOut c' hc').1
      simpa [State.queued, (hne c' hc').symm, hne c' hc'] using this
  · rw [request_of_full s c hs (by simpa using hj) (by simpa using hd) (Nat.not_lt.1 hroom)]
    have h16 := h.atMost16
    have hfull : s.queue.length = 16 := by omega
    refine State.QueueTied.queueInv ⟨h16, h.oneEach, fun k hk => ?_, fun c' hc' => ?_⟩ fun _ _ => hfull
    · rw [State.entry_setEntry] at hk
      split at hk
      · next e => exact e ▸ hnot
      · exact (h.wantedWhenFull k hk).2
    · rw [State.entry_setEntry_ne _ _ (hne c' hc')]
      exact h.subjectOut c' hc'

/-- A front request for an idle engine's last subject keeps the invariant (R45). -/
theorem State.QueueInv.requestFront {i : EntryNo} (h : s.QueueInv) (he : s.engine = none) (hi : i ∉ s.queued)
    (hw : (s.entry i).wanted = none) : (s.requestFront i).QueueInv := by
  have h16 := h.atMost16
  by_cases hroom : s.queue.length < 16
  · have hnone : ∀ k, (s.entry k).wanted = none := fun k => by_contra fun hw => by
      have := (h.wantedWhenFull k hw).1; omega
    rw [requestFront_of_room s i hroom]
    refine State.QueueTied.queueInv ⟨by simp; omega, ?_, fun k hk => absurd (hnone k) hk, fun c hc => ?_⟩
      fun k hk => absurd (hnone k) hk
    · exact List.nodup_cons.2 ⟨hi, h.oneEach⟩
    · simp [he] at hc
  · obtain ⟨front, r, hq⟩ : ∃ front r, s.queue = front ++ [r] := by
      rcases List.eq_nil_or_concat s.queue with h0 | ⟨a, b, hab⟩
      · simp [h0] at hroom
      · exact ⟨a, b, by simpa using hab⟩
    have hqd : s.queued = front.map (·.entry) ++ [r.entry] := by simp [State.queued, hq]
    have hnodup := h.oneEach
    rw [hqd] at hi hnodup
    rw [requestFront_of_full s i hq (Nat.not_lt.1 hroom)]
    have hlen : front.length = 15 := by rw [hq, List.length_append, List.length_singleton] at h16 hroom; omega
    refine State.QueueTied.queueInv ⟨by simp [hlen], ?_, fun k hk hm => ?_, fun c hc => ?_⟩ fun _ _ => by simp [hlen]
    · exact List.nodup_cons.2 ⟨fun hm => hi (List.mem_append_left _ hm), (List.nodup_append.1 hnodup).1⟩
    · have hm' : k = i ∨ k ∈ front.map (·.entry) := List.mem_cons.1 hm
      rw [State.entry_setEntry] at hk
      split at hk
      · next hkr =>
        rcases hm' with rfl | hm'
        · exact hi (by simp [hkr])
        · exact (List.nodup_append.1 hnodup).2.2 k hm' r.entry (by simp) hkr
      · rcases hm' with rfl | hm'
        · exact hk hw
        · exact (h.wantedWhenFull k hk).2 (hqd ▸ List.mem_append_left _ hm')
    · exact absurd (show s.engine = some c from hc) (by simp [he])

/-- The take of a queued record keeps the invariant: its place goes to a wanted entry (R46, R49). -/
theorem State.QueueInv.takeRecord (b : Bool) {r : QueueRec} (h : s.QueueInv) (hr : r ∈ s.queue) :
    (s.takeRecord b r).QueueInv := by
  have hnodup : s.queue.Nodup := List.Nodup.of_map _ h.oneEach
  have hmem : r.entry ∈ s.queued := List.mem_map_of_mem hr
  have hnone : (s.entry r.entry).wanted = none := by_contra fun hw => (h.wantedWhenFull _ hw).2 hmem
  have hsub : (s.queue.erase r).Sublist s.queue := List.erase_sublist
  have hout : r.entry ∉ (s.queue.erase r).map (·.entry) := by
    intro hm
    obtain ⟨x, hx, hxr⟩ := List.mem_map.1 hm
    obtain ⟨hne, hxq⟩ := (hnodup.mem_erase_iff).1 hx
    exact hne (List.inj_on_of_nodup_map h.oneEach hxq hr hxr)
  unfold State.takeRecord
  refine State.QueueTied.reoffer ⟨hsub.length_le.trans h.atMost16, h.oneEach.sublist (hsub.map _), fun i hi hm => ?_,
    fun c hc => ?_⟩
  · rw [State.entry_setEntry] at hi
    split at hi
    · exact hi hnone
    · exact (h.wantedWhenFull i hi).2 ((hsub.map _).subset hm)
  · obtain rfl : s.buildContext r = c := Option.some.inj hc
    exact ⟨hout, (congrArg Entry.wanted (State.entry_setEntry_self _ _ _)).trans hnone⟩

theorem State.QueueInv.look (b : Bool) (h : s.QueueInv) : (s.look b).QueueInv := by
  rcases look_cases s b with e | ⟨r, hr, _, _, _, e⟩
  · rwa [e]
  · rw [e]; exact h.takeRecord b (List.mem_of_find?_eq_some hr)

/-- No ending touches its subject's wanted cause. -/
theorem ended_wanted (e : Entry) (c : Context) (g : Ending) : (e.ended c g).wanted = e.wanted := by
  unfold Entry.ended
  split
  · rfl
  · show (e.afterEnding c g).wanted = e.wanted
    unfold Entry.afterEnding Entry.afterFailure Entry.commit Entry.restore
    split <;> [rfl; rfl; rfl; rfl; rfl; split; split; split; rfl; rfl; rfl; rfl; rfl; rfl] <;> rfl

theorem settleEnding_wanted (c : Context) (g : Ending) (i : EntryNo) :
    ((s.settleEnding c g).entry i).wanted = (s.entry i).wanted := by
  rw [settleEnding_entry]
  split
  · next hi => rw [hi, ended_wanted]
  · rfl

theorem State.QueueInv.settleEnding (c : Context) (g : Ending) (h : s.QueueInv) : (s.settleEnding c g).QueueInv :=
  h.congr rfl (settleEnding_wanted c g) fun _ hc => by cases hc

/-- An ending, its look aside, keeps the invariant (R45, R95). -/
theorem State.QueueInv.endSweepNoLook (g : Ending) (h : s.QueueInv) : (s.endSweepNoLook g).QueueInv := by
  cases he : s.engine with
  | none => rwa [State.endSweepNoLook, he]
  | some c =>
    obtain ⟨hq, hw⟩ := h.subjectOut c he
    rw [endSweepNoLook_of_running s g he]
    unfold State.requeueSubject
    split
    · exact h.settleEnding c g
    · exact (h.settleEnding c g).requestFront rfl hq ((settleEnding_wanted c g _).trans hw)
    · exact (h.settleEnding c g).request _ _

theorem State.QueueInv.endSweep (g : Ending) (h : s.QueueInv) : (s.endSweep g).QueueInv := by
  unfold State.endSweep
  split
  · exact h
  · exact (h.endSweepNoLook g).look true

/-- An ABORTED_PLAN ending leaves the queue and the wanted causes as they are, and requeues nothing (R94). -/
theorem endSweepNoLook_of_plan {c : Context} {g : Ending} (he : s.engine = some c)
    (hg : g = .abortedPlanClear ∨ g = .abortedPlanScope) : s.endSweepNoLook g = s.settleEnding c g := by
  rw [endSweepNoLook_of_running s g he]
  rcases hg with rfl | rfl <;> rfl

theorem State.QueueTied.endPlan {c : Context} {g : Ending} (h : s.QueueTied) (he : s.engine = some c)
    (hg : g = .abortedPlanClear ∨ g = .abortedPlanScope) : (s.endSweepNoLook g).QueueTied := by
  rw [endSweepNoLook_of_plan he hg]
  exact h.mono (List.Sublist.refl _) (fun i => by rw [settleEnding_wanted]; exact id) fun _ hc => by cases hc

/-- A clear drops records and wanted causes, and its re-offer pays what it owes (R46, R165 to R167). -/
theorem State.QueueTied.clearEntries (gone : EntryNo → Bool) (h : s.QueueTied) : (s.clearEntries gone).QueueInv := by
  have hx : ((s.mapEntries fun i e => if gone i then {} else e).setQueue
      (s.queue.filter fun r => !gone r.entry)).QueueTied := by
    refine h.mono List.filter_sublist (fun i => ?_) fun c hc => ⟨c, by simpa using hc, rfl⟩
    rw [State.setQueue_entry, State.entry_mapEntries]
    split
    · exact fun hn => absurd rfl hn
    · exact id
  unfold State.clearEntries
  dsimp only
  refine State.QueueTied.reoffer ?_
  split
  · next c hc =>
    split
    · exact hx.endPlan hc (.inl rfl)
    · exact hx
  · exact hx

theorem State.QueueTied.applyScope (h : s.QueueTied) : s.applyScope.QueueInv := by
  have hx : ((s.mapEntries fun i e => if !s.plan.inScope i then { e with wanted := none } else e).setQueue
      (s.queue.filter fun r => !!s.plan.inScope r.entry)).QueueTied := by
    refine h.mono List.filter_sublist (fun i => ?_) fun c hc => ⟨c, by simpa using hc, rfl⟩
    rw [State.setQueue_entry, State.entry_mapEntries]
    split
    · exact fun hn => absurd rfl hn
    · exact id
  unfold State.applyScope
  dsimp only
  refine State.QueueTied.reoffer ?_
  split
  · next c hc =>
    split
    · exact hx.endPlan hc (.inr rfl)
    · exact hx
  · exact hx

theorem reset_queueInv : State.reset.QueueInv := by
  have hw : ∀ i, (State.reset.entry i).wanted = none := fun i => by simp [State.reset, State.entry]
  refine ⟨by decide, List.nodup_nil, fun i hi => absurd (hw i) hi, fun c hc => by cases hc⟩

theorem State.QueueInv.ofCore (h : s.QueueInv) (e : t.core = s.core) : t.QueueInv := by
  simp only [State.core, Prod.mk.injEq] at e
  obtain ⟨hv, hq, he, _⟩ := e
  exact h.congr hq (fun i => by unfold State.entry; rw [hv]) fun c hc => ⟨c, he ▸ hc, rfl⟩

theorem queueKept : SweepKept State.QueueInv where
  core h e := h.ofCore e
  side h e _ _ := h.ofCore e
  blink _ h := h.congr rfl (fun _ => rfl) fun c hc => ⟨c, hc, rfl⟩
  snapshot h := h.congr rfl (fun _ => rfl) fun c hc => ⟨c, hc, rfl⟩
  benign _ hb h := h.congr rfl (fun i => (hb i).wanted) fun c hc => ⟨c, hc, rfl⟩
  request i c h := h.request i c
  look b h := h.look b
  endSweep g _ _ _ h := h.endSweep g
  patternLoss {s} i h := by
    have hx : (s.setEntry i { s.entry i with laid := false }).QueueInv := h.congr rfl
      (fun k => by
        rw [State.entry_setEntry]
        split
        · next hk => rw [hk]
        · rfl) fun c hc => ⟨c, hc, rfl⟩
    unfold State.patternLoss
    dsimp only
    split
    · exact hx.endSweep _
    · exact hx
  retask {s c c'} he hc h := by
    obtain ⟨_, _, _, _, rfl⟩ := hc
    exact h.congr rfl (fun _ => rfl) fun x hx => ⟨c, he, by rw [← Option.some.inj hx]⟩
  laid {s c c'} he hc h := by
    obtain ⟨_, _, _, _, rfl⟩ := hc
    refine h.congr rfl (fun k => ?_) fun x hx => ⟨c, he, by rw [← Option.some.inj hx]⟩
    rw [State.setEngine_entry, State.entry_setEntry]
    split
    · next hk => rw [hk]
    · rfl
  clearEntries gone h := h.queueTied.clearEntries gone
  applyScope h := h.queueTied.applyScope
  newPlan _ h := h.congr rfl (fun _ => rfl) fun c hc => ⟨c, hc, rfl⟩
  powerOn _ _ h := by
    rw [exec_powerOn h]
    exact reset_queueInv.congr rfl (fun _ => rfl) fun c hc => ⟨c, hc, rfl⟩

/-- Settles O6: requests, takes, endings and clears keep the invariant, and nothing else touches what it reads. -/
theorem stepKeepsQueue : Obligations.StepKeepsQueue := fun _ _ h hs =>
  (queueKept.kept fun _ h => h.congr rfl (fun _ => rfl) fun c hc => ⟨c, hc, rfl⟩).step hs h

end Sys2Proof.Machine
end

section
/-! PROOFS. The head map and the engine (R3, R9, R10, R52): the entries' ties through takes, endings, clears and pattern
loss. -/

namespace Sys2Proof.Machine

variable {s t : State}

/-! ### Requests touch wanted causes only -/

/-- Two states with the same engine whose entries differ in their wanted causes only. -/
def SameButWanted (s t : State) : Prop :=
  t.engine = s.engine ∧ ∀ i, ∃ w, t.entry i = { s.entry i with wanted := w }

theorem SameButWanted.refl (s : State) : SameButWanted s s := ⟨rfl, fun i => ⟨(s.entry i).wanted, rfl⟩⟩

theorem SameButWanted.trans {s t r : State} (h : SameButWanted s t) (k : SameButWanted t r) : SameButWanted s r := by
  refine ⟨k.1.trans h.1, fun i => ?_⟩
  obtain ⟨v, hv⟩ := h.2 i
  obtain ⟨w, hw⟩ := k.2 i
  exact ⟨w, by rw [hw, hv]⟩

theorem setEntry_sameButWanted (s : State) (i : EntryNo) (w : Option Cause) :
    SameButWanted s (s.setEntry i { s.entry i with wanted := w }) := by
  refine ⟨rfl, fun k => ?_⟩
  rw [State.entry_setEntry]
  split
  · next hk => exact ⟨w, by rw [hk]⟩
  · exact ⟨_, rfl⟩

theorem setQueue_sameButWanted (s : State) (q : List QueueRec) : SameButWanted s (s.setQueue q) := .refl s

theorem request_sameButWanted (s : State) (i : EntryNo) (c : Cause) : SameButWanted s (s.request i c) := by
  unfold State.request
  split_ifs
  iterate 3 exact .refl s
  · exact (setQueue_sameButWanted s _).trans (setEntry_sameButWanted _ _ _)
  · exact setEntry_sameButWanted _ _ _

theorem requestFront_sameButWanted (s : State) (i : EntryNo) : SameButWanted s (s.requestFront i) := by
  unfold State.requestFront State.displaceTail
  refine SameButWanted.trans ?_ (setQueue_sameButWanted _ _)
  split
  · exact .refl s
  · split
    · exact (setQueue_sameButWanted s _).trans (setEntry_sameButWanted _ _ _)
    · exact .refl s

theorem reofferOne_sameButWanted (s : State) (i : EntryNo) : SameButWanted s (s.reofferOne i) := by
  unfold State.reofferOne
  split
  · split
    · exact (setQueue_sameButWanted s _).trans (setEntry_sameButWanted _ _ _)
    · exact .refl s
  · exact .refl s

theorem reoffer_sameButWanted (s : State) : SameButWanted s s.reoffer :=
  foldl_keeps SameButWanted.refl SameButWanted.trans _ reofferOne_sameButWanted _ s

theorem requeueSubject_sameButWanted (s : State) (i : EntryNo) (c : Option Cause) :
    SameButWanted s (s.requeueSubject i c) := by
  unfold State.requeueSubject
  split
  · exact .refl s
  · exact requestFront_sameButWanted s i
  · exact request_sameButWanted s i _

/-! ### The map's invariant -/

/-- What a context says of its subject's entry, but for what rests on laid sectors. -/
structure Context.PriorTied (c : Context) (e : Entry) : Prop where
  priorNotMeasuring : c.priorState ≠ .measuring
  priorCandidate : c.priorCandidate.isSome ↔ c.priorState = .suspect
  priorCentre : c.priorCentre = e.centre
  unmeasured : c.priorState = .unmeasured → e.centre = none ∧ e.drift = 0
  measured : c.priorState = .valid ∨ c.priorState = .marginal ∨ c.priorState = .suspect → e.centre ≠ none

theorem Context.Tied.priorTied {c : Context} {e : Entry} (h : c.Tied e) : c.PriorTied e :=
  ⟨h.priorNotMeasuring, h.priorCandidate, h.priorCentre, h.unmeasured, h.measured⟩

/-- The map's invariant, but for what rests on laid sectors: what an ending needs (R21). -/
structure State.MapTied (s : State) : Prop where
  entriesTied : ∀ i, (s.entry i).Tied
  measuringIffSubject : ∀ i, (s.entry i).state = .measuring ↔ s.isSubject i = true
  priorTied : ∀ c, s.engine = some c → c.PriorTied (s.entry c.subject)

theorem State.MapInv.mapTied (h : s.MapInv) : s.MapTied :=
  ⟨h.entriesTied, h.measuringIffSubject, fun c hc => (h.contextTied c hc).priorTied⟩

theorem isSubject_congr (h : t.engine = s.engine) (i : EntryNo) : t.isSubject i = s.isSubject i := by
  unfold State.isSubject; rw [h]

/-- With the engine IDLE the invariant is the entries' ties and that none is MEASURING. -/
theorem mapInv_of_idle (he : s.engine = none) (ht : ∀ i, (s.entry i).Tied) (hm : ∀ i, (s.entry i).state ≠ .measuring) :
    s.MapInv :=
  ⟨ht, fun i => by rw [isSubject_of_idle s he]; simp [hm i], fun c hc => by simp [he] at hc⟩

/-- The invariant looks at no wanted cause. -/
theorem State.MapInv.sameButWanted (h : s.MapInv) (k : SameButWanted s t) : t.MapInv := by
  obtain ⟨he, hk⟩ := k
  refine ⟨fun i => ?_, fun i => ?_, fun c hc => ?_⟩
  · obtain ⟨w, hw⟩ := hk i
    have ⟨a1, a2, a3, a4, a5, a6, a7⟩ := h.entriesTied i
    rw [hw]; exact ⟨a1, a2, a3, a4, a5, a6, a7⟩
  · obtain ⟨w, hw⟩ := hk i
    rw [hw, isSubject_congr he]; exact h.measuringIffSubject i
  · obtain ⟨w, hw⟩ := hk c.subject
    have ⟨a1, a2, a3, a4, a5, a6⟩ := h.contextTied c (he ▸ hc)
    rw [hw]; exact ⟨a1, a2, a3, a4, a5, a6⟩

theorem State.MapInv.congr (h : s.MapInv) (hv : t.entries = s.entries) (he : t.engine = s.engine) : t.MapInv :=
  h.sameButWanted ⟨he, fun i => ⟨_, by unfold State.entry; rw [hv]⟩⟩

theorem State.MapInv.benign (v : Vector Entry 128) (hb : ∀ i : EntryNo, (s.entry i).Benign v[i]) (h : s.MapInv) :
    (s.setEntries v).MapInv := by
  refine ⟨fun i => (hb i).tied (h.entriesTied i), fun i => (hb i).measuring.trans (h.measuringIffSubject i), fun c hc => ?_⟩
  have hm : (s.entry c.subject).state = .measuring := (h.measuringIffSubject _).2 ((isSubject_iff s).2 ⟨c, hc, rfl⟩)
  have ⟨a1, a2, a3, a4, a5, a6⟩ := h.contextTied c hc
  have hb := hb c.subject
  have hcen : ((s.setEntries v).entry c.subject).centre = (s.entry c.subject).centre := hb.centre
  have hlaid : ((s.setEntries v).entry c.subject).laid = (s.entry c.subject).laid := hb.laid
  have hdrift : ((s.setEntries v).entry c.subject).drift = (s.entry c.subject).drift := hb.drift hm
  exact ⟨a1, a2, by rw [hcen]; exact a3, by rw [hlaid]; exact a4, by rw [hcen, hdrift]; exact a5, by rw [hcen]; exact a6⟩

/-! ### Takes and endings -/

/-- A take sends the subject to MEASURING with its candidate in the context (R9, R52). -/
theorem State.MapInv.takeRecord (b : Bool) (r : QueueRec) (h : s.MapInv) (he : s.engine = none) :
    (s.takeRecord b r).MapInv := by
  have hidle : ∀ i, (s.entry i).state ≠ .measuring := fun i hi => by
    simpa [isSubject_of_idle s he] using (h.measuringIffSubject i).1 hi
  have ⟨a1, a2, a3, a4, a5, a6, a7⟩ := h.entriesTied r.entry
  unfold State.takeRecord
  refine State.MapInv.sameButWanted ⟨fun i => ?_, fun i => ?_, fun c hc => ?_⟩ (reoffer_sameButWanted _)
  · rw [State.entry_setEntry]
    split
    · exact ⟨by simp, a2, a3, a4, a5, by simp, by simp⟩
    · exact h.entriesTied i
  · rw [State.entry_setEntry, isSubject_iff]
    split
    · next hi => simp [hi, State.buildContext]
    · next hi =>
      refine ⟨fun hm => absurd hm (hidle i), fun hs => ?_⟩
      obtain ⟨c, hc, hci⟩ := hs
      cases hc
      exact absurd hci.symm hi
  · obtain rfl : s.buildContext r = c := Option.some.inj hc
    have hsub : (s.buildContext r).subject = r.entry := rfl
    rw [hsub, State.entry_setEntry_self]
    refine ⟨hidle r.entry, a1, rfl, fun hp => ?_, a6, a7⟩
    by_contra hl
    change (if (s.entry r.entry).laid then SweepPhase.sweeping else .laying) = .sweeping at hp
    change ¬ (s.entry r.entry).laid = true at hl
    rw [if_neg hl] at hp
    cases hp

theorem State.MapInv.look (b : Bool) (h : s.MapInv) : (s.look b).MapInv := by
  rcases look_cases s b with e | ⟨r, _, he, _, _, e⟩
  · rwa [e]
  · rw [e]; exact h.takeRecord b r he

/-- The subject put back is tied, whatever of its retries and outcome is written besides (R90, R93, R94). -/
theorem restored_tied {e : Entry} {c : Context} (h : e.Tied) (hc : c.PriorTied e) {n : Nat} (hn : n ≤ 1)
    (o : Option SweepOutcome) : ({ e.restore c with retries := n, lastOutcome := o } : Entry).Tied :=
  ⟨hc.priorCandidate, h.driftRange, hn, h.ageRange, h.noCentre, hc.unmeasured, hc.measured⟩

/-- A FAILED entry is tied (R83, R91). -/
theorem failed_tied {e : Entry} (h : e.Tied) (o : Option SweepOutcome) :
    ({ e with state := .failed, candidate := none, retries := 0, lastOutcome := o } : Entry).Tied :=
  ⟨by simp, h.driftRange, by simp, h.ageRange, h.noCentre, by simp, by simp⟩

/-- A committed entry is tied (R87). -/
theorem commit_tied (e : Entry) (o : Opening) (w : Option SweepOutcome) :
    ({ e.commit o with lastOutcome := w } : Entry).Tied :=
  ⟨by cases hq : o.quality <;> simp [Entry.commit, Quality.entryState, hq], by simp [Entry.commit],
    by simp [Entry.commit], by simp [Entry.commit], by simp [Entry.commit],
    by cases hq : o.quality <;> simp [Entry.commit, Quality.entryState, hq], by simp [Entry.commit]⟩

/-- Every ending but a clear's leaves its subject tied and no longer MEASURING (R87 to R94). -/
theorem ended_tied {e : Entry} {c : Context} {g : Ending} (h : e.Tied) (hc : c.PriorTied e)
    (hg : g ≠ .abortedPlanClear) (hj : ∀ o, g = .fit (.found o .jump) → c.priorCentre ≠ none) :
    (e.ended c g).Tied ∧ (e.ended c g).state ≠ .measuring := by
  have hrestored := restored_tied h hc h.retriesRange (some g.outcome)
  have hcommit (o : Opening) (w : Option SweepOutcome) :
      ({ e.commit o with lastOutcome := w } : Entry).Tied ∧ (e.commit o).state ≠ .measuring :=
    ⟨commit_tied e o w, by cases hq : o.quality <;> simp [Entry.commit, Quality.entryState, hq]⟩
  have hfailure (w : Option SweepOutcome) :
      ({ e.afterFailure c with lastOutcome := w } : Entry).Tied ∧ (e.afterFailure c).state ≠ .measuring := by
    unfold Entry.afterFailure
    split
    · exact ⟨restored_tied h hc le_rfl _, hc.priorNotMeasuring⟩
    · exact ⟨failed_tied h _, by simp⟩
  unfold Entry.ended
  rw [if_neg hg]
  unfold Entry.afterEnding
  cases g with
  | fit r =>
    cases r with
    | noOpening => exact hfailure _
    | found o k =>
      cases k with
      | committed | marginal | confirmed => exact hcommit o _
      | failedJump => exact ⟨failed_tied h _, by simp⟩
      | jump =>
        have hcen : e.centre ≠ none := hc.priorCentre ▸ hj o rfl
        exact ⟨⟨by simp, h.driftRange, h.retriesRange, h.ageRange, h.noCentre, by simp, fun _ => hcen⟩, by simp⟩
  | layFailed | timeout => exact hfailure _
  | abortedSpindle | abortedSpinDown | abortedPattern | abortedReset | abortedPlanScope =>
    exact ⟨hrestored, hc.priorNotMeasuring⟩
  | abortedPlanClear => exact absurd rfl hg

/-- An ending, its look aside, keeps the map, also where the subject has lost its laid sectors (R21, R86). -/
theorem State.MapTied.endSweepNoLook {c : Context} {g : Ending} (h : s.MapTied) (he : s.engine = some c)
    (hg : g ≠ .abortedPlanClear) (hj : ∀ o, g = .fit (.found o .jump) → c.priorCentre ≠ none) :
    (s.endSweepNoLook g).MapInv := by
  obtain ⟨htied, hstate⟩ := ended_tied (h.entriesTied c.subject) (h.priorTied c he) hg hj
  rw [endSweepNoLook_of_running s g he]
  refine State.MapInv.sameButWanted (mapInv_of_idle rfl (fun i => ?_) fun i => ?_) (requeueSubject_sameButWanted _ _ _)
  all_goals rw [settleEnding_entry]; split
  · exact htied
  · exact h.entriesTied i
  · exact hstate
  · next hi =>
    intro hm
    obtain ⟨c', hc', hs⟩ := (isSubject_iff s).1 ((h.measuringIffSubject i).1 hm)
    rw [he] at hc'
    cases hc'
    exact hi hs.symm

theorem State.MapTied.endSweep {c : Context} {g : Ending} (h : s.MapTied) (he : s.engine = some c)
    (hg : g ≠ .abortedPlanClear) (hj : ∀ o, g = .fit (.found o .jump) → c.priorCentre ≠ none) :
    (s.endSweep g).MapInv := by
  unfold State.endSweep
  rw [he]
  exact (h.endSweepNoLook he hg hj).look true

/-! ### Pattern loss and plans -/

/-- Pattern loss takes laid from an entry; a sweep of it, which rests on it, ends (R21). -/
theorem State.MapInv.patternLoss (i : EntryNo) (h : s.MapInv) : (s.patternLoss i).MapInv := by
  have hentry (k : EntryNo) : ∃ l, (s.setEntry i { s.entry i with laid := false }).entry k = { s.entry k with laid := l } ∧
      (k ≠ i → l = (s.entry k).laid) := by
    rw [State.entry_setEntry]
    split
    · next hk => exact ⟨false, by rw [hk], fun hn => absurd hk hn⟩
    · exact ⟨_, rfl, fun _ => rfl⟩
  have htied : (s.setEntry i { s.entry i with laid := false }).MapTied := by
    refine ⟨fun k => ?_, fun k => ?_, fun c hc => ?_⟩
    · obtain ⟨l, hl, _⟩ := hentry k
      have ⟨a1, a2, a3, a4, a5, a6, a7⟩ := h.entriesTied k
      rw [hl]; exact ⟨a1, a2, a3, a4, a5, a6, a7⟩
    · obtain ⟨l, hl, _⟩ := hentry k
      rw [hl]; exact h.measuringIffSubject k
    · obtain ⟨l, hl, _⟩ := hentry c.subject
      have ⟨a1, a2, a3, a4, a5, a6⟩ := h.contextTied c hc
      rw [hl]; exact ⟨a1, a2, a3, a5, a6⟩
  unfold State.patternLoss
  dsimp only
  split
  · next hi =>
    obtain ⟨c, hc, _⟩ := (isSubject_iff _).1 hi
    exact htied.endSweep hc (by simp) (by simp)
  · next hi =>
    refine ⟨htied.entriesTied, htied.measuringIffSubject, fun c hc => ?_⟩
    have hne : c.subject ≠ i := fun hs => hi ((isSubject_iff _).2 ⟨c, hc, hs⟩)
    rw [State.entry_setEntry_ne _ _ hne]
    exact h.contextTied c hc

theorem cleared_tied : ({} : Entry).Tied :=
  ⟨by simp, by simp, by simp, by simp, by simp, by simp, by simp⟩

/-- A clear, with the end of a sweep that it clears (R10, R19, R20, R165). -/
theorem State.MapInv.clearEntries (gone : EntryNo → Bool) (h : s.MapInv) : (s.clearEntries gone).MapInv := by
  generalize hx : (s.mapEntries fun i e => if gone i then {} else e).setQueue
      (s.queue.filter fun r => !gone r.entry) = x
  have hentry (i : EntryNo) : x.entry i = if gone i then {} else s.entry i := by
    rw [← hx, State.setQueue_entry, State.entry_mapEntries]
  have heng : x.engine = s.engine := by rw [← hx]; simp
  have htied (i : EntryNo) : (x.entry i).Tied := by
    rw [hentry]
    split
    · exact cleared_tied
    · exact h.entriesTied i
  have hmeasuring (i : EntryNo) (hm : (x.entry i).state = .measuring) : gone i = false ∧ s.isSubject i = true := by
    rw [hentry] at hm
    split at hm
    · cases hm
    · exact ⟨by simpa using ‹¬ gone i = true›, (h.measuringIffSubject i).1 hm⟩
  unfold State.clearEntries
  dsimp only
  rw [hx]
  refine State.MapInv.sameButWanted ?_ (reoffer_sameButWanted _)
  split
  · next c hc =>
    rw [heng] at hc
    split
    · next hgone =>
      rw [endSweepNoLook_of_plan (heng.trans hc) (.inl rfl)]
      have hsame (i : EntryNo) : (x.settleEnding c .abortedPlanClear).entry i = x.entry i := by
        rw [settleEnding_entry]
        split
        · next hi => rw [hi]; rfl
        · rfl
      refine mapInv_of_idle rfl (fun i => by rw [hsame]; exact htied i) fun i hm => ?_
      obtain ⟨hkept, hsub⟩ := hmeasuring i (hsame i ▸ hm)
      obtain ⟨c', hc', hci⟩ := (isSubject_iff s).1 hsub
      rw [hc] at hc'
      cases hc'
      rw [hci, hkept] at hgone
      cases hgone
    · next hkept =>
      refine ⟨htied, fun i => ⟨fun hm => ?_, fun hs => ?_⟩, fun c' hc' => ?_⟩
      · rw [isSubject_congr heng]; exact (hmeasuring i hm).2
      · rw [isSubject_congr heng] at hs
        obtain ⟨c', hc', hci⟩ := (isSubject_iff s).1 hs
        rw [hc] at hc'
        cases hc'
        rw [hentry, if_neg (hci ▸ hkept)]
        exact (h.measuringIffSubject i).2 hs
      · rw [heng, hc] at hc'
        cases hc'
        rw [hentry, if_neg hkept]
        exact h.contextTied c hc
  · next hc =>
    refine mapInv_of_idle hc htied fun i hm => ?_
    have := (hmeasuring i hm).2
    rw [isSubject_of_idle s (heng ▸ hc)] at this
    cases this

theorem State.MapInv.applyScope (h : s.MapInv) : s.applyScope.MapInv := by
  generalize hx : (s.mapEntries fun i e => if !s.plan.inScope i then { e with wanted := none } else e).setQueue
      (s.queue.filter fun r => !!s.plan.inScope r.entry) = x
  have hx' : x.MapInv := by
    refine h.sameButWanted ⟨by rw [← hx]; simp, fun i => ?_⟩
    rw [← hx, State.setQueue_entry, State.entry_mapEntries]
    split
    · exact ⟨none, rfl⟩
    · exact ⟨_, rfl⟩
  unfold State.applyScope
  dsimp only
  rw [hx]
  refine State.MapInv.sameButWanted ?_ (reoffer_sameButWanted _)
  split
  · next c hc =>
    split
    · exact hx'.mapTied.endSweepNoLook hc (by simp) (by simp)
    · exact hx'
  · exact hx'

/-! ### The step -/

theorem reset_mapInv : State.reset.MapInv := by
  have he : ∀ i, State.reset.entry i = {} := fun i => by simp [State.reset, State.entry]
  exact mapInv_of_idle rfl (fun i => by rw [he]; exact cleared_tied) fun i => by rw [he]; simp

theorem State.MapInv.ofCore (h : s.MapInv) (e : t.core = s.core) : t.MapInv := by
  simp only [State.core, Prod.mk.injEq] at e
  obtain ⟨hv, _, he, _⟩ := e
  exact h.congr hv he

theorem mapKept : SweepKept State.MapInv where
  core h e := h.ofCore e
  side h e _ _ := h.ofCore e
  blink _ h := h.congr rfl rfl
  snapshot h := h.congr rfl rfl
  benign v hb h := h.benign v hb
  request i c h := h.sameButWanted (request_sameButWanted _ i c)
  look b h := h.look b
  endSweep _ he hg hj h := h.mapTied.endSweep he hg hj
  patternLoss i h := h.patternLoss i
  retask {s c c'} he hc h := by
    obtain ⟨_, _, _, _, rfl⟩ := hc
    refine ⟨h.entriesTied, fun i => ?_, fun x hx => ?_⟩
    · rw [State.setEngine_entry, h.measuringIffSubject i]
      simp [State.isSubject, he]
    · cases hx
      have ⟨a1, a2, a3, a4, a5, a6⟩ := h.contextTied c he
      exact ⟨a1, a2, a3, a4, a5, a6⟩
  laid {s c c'} he hc h := by
    obtain ⟨_, _, _, _, rfl⟩ := hc
    have hentry (k : EntryNo) : ∃ l, (s.setEntry c.subject { s.entry c.subject with laid := true }).entry k =
        { s.entry k with laid := l } ∧ (k = c.subject → l = true) := by
      rw [State.entry_setEntry]
      split
      · next hk => exact ⟨true, by rw [hk], fun _ => rfl⟩
      · next hk => exact ⟨_, rfl, fun hn => absurd hn hk⟩
    refine ⟨fun k => ?_, fun k => ?_, fun x hx => ?_⟩
    · obtain ⟨l, hl, _⟩ := hentry k
      have ⟨a1, a2, a3, a4, a5, a6, a7⟩ := h.entriesTied k
      rw [State.setEngine_entry, hl]; exact ⟨a1, a2, a3, a4, a5, a6, a7⟩
    · obtain ⟨l, hl, _⟩ := hentry k
      rw [State.setEngine_entry, hl]
      show (s.entry k).state = .measuring ↔ _
      rw [h.measuringIffSubject k]
      simp [State.isSubject, he]
    · cases hx
      obtain ⟨l, hl, hlaid⟩ := hentry c.subject
      have ⟨a1, a2, a3, a4, a5, a6⟩ := h.contextTied c he
      rw [State.setEngine_entry, hl]
      exact ⟨a1, a2, a3, fun _ => hlaid rfl, a5, a6⟩
  clearEntries gone h := h.clearEntries gone
  applyScope h := h.applyScope
  newPlan _ h := h.congr rfl rfl
  powerOn _ _ h := by rw [exec_powerOn h]; exact reset_mapInv.congr rfl rfl

/-- Settles O7: takes, endings, clears and pattern loss keep the ties, and nothing else touches what they read. -/
theorem stepKeepsMap : Obligations.StepKeepsMap := fun _ _ h hs =>
  (mapKept.kept fun _ h => h.congr rfl rfl).step hs h

end Sys2Proof.Machine
end

section
/-! PROOFS. The monitors (R142 to R152) and the rule that a sweep runs only in ACTIVE mode on a SETTLED unit (R104,
R153). -/

namespace Sys2Proof.Machine

variable {s : State} {m : Monitor}

/-! ### One monitor record -/

/-- The last period after an accepted pulse lies in its range (R143, R144). -/
theorem nextPeriod_range (h : m.Tied) {t : Nat} (ha : m.accepts t = true) {p : Nat} (hp : m.nextPeriod t = some p) :
    1000 ≤ p ∧ p ≤ 2000000 := by
  unfold Monitor.nextPeriod at hp
  unfold Monitor.accepts at ha
  cases hl : m.lastPulse with
  | none => rw [hl] at hp; exact h.periodRange p hp
  | some last =>
    rw [hl] at hp ha
    have haccepted : 1000 ≤ t - last := of_decide_eq_true ha
    have hmin : min 2000000 (t - last) = p := Option.some.inj hp
    omega

theorem nextStable_le (h : m.Tied) (t : Nat) : m.nextStable t ≤ 255 := by
  unfold Monitor.nextStable
  split
  · exact h.stableRange
  · split <;> omega

/-- A monitor that has worked a pulse is tied in every state but UNKNOWN and STOPPED, its stop time as that state wants
it (R144, R145). -/
theorem worked_tied (h : m.Tied) {t : Nat} (ha : m.accepts t = true) {x : SpindleState} {since : Option Nat} {n : Nat}
    (hn : n ≤ 255) (hx : x ≠ .unknown ∧ x ≠ .stopped) (hs : since.isSome ↔ x = .stopping) :
    ({ m.worked t with state := x, stable := n, stoppingSince := since } : Monitor).Tied :=
  ⟨by simp [Monitor.worked], by simp [Monitor.worked, hx], fun _ hp => nextPeriod_range h ha hp,
    by simp [Monitor.worked], hn, hs⟩

/-- An accepted pulse leaves a tied record; a unit that was SETTLED stays so but where it is said to leave SETTLED, and one
that is said to settle is SETTLED (R146 to R152). -/
theorem pulse_tied (h : m.Tied) {t : Nat} (ha : m.accepts t = true) (n : Nat) :
    (m.pulse t n).1.Tied ∧
      ((m.pulse t n).2 = .unsettles ∨ (m.pulse t n).1.state = .settled ∨ m.state ≠ .settled) := by
  have hn := nextStable_le h t
  have hw (x : SpindleState) (hm : m.state ≠ .stopping) (hx : x = .spinningUp ∨ x = .settled) :
      ({ m.worked t with state := x } : Monitor).Tied := by
    refine worked_tied h ha (n := m.nextStable t) (since := m.stoppingSince) hn ?_ ?_
    · rcases hx with rfl | rfl <;> simp
    · rw [h.sinceIffStopping]; rcases hx with rfl | rfl <;> simp [hm]
  have hkeep (hm : m.state ≠ .unknown ∧ m.state ≠ .stopped) : (m.worked t).Tied :=
    worked_tied h ha (n := m.nextStable t) (since := m.stoppingSince) hn hm h.sinceIffStopping
  unfold Monitor.pulse
  cases hm : m.state with
  | unknown | stopped => exact ⟨hw _ (by simp [hm]) (.inl rfl), by simp⟩
  | spinningUp =>
    dsimp only
    split
    · exact ⟨hw _ (by simp [hm]) (.inr rfl), by simp⟩
    · exact ⟨hkeep (by simp [hm]), by simp⟩
  | settled =>
    dsimp only
    split
    · exact ⟨hw _ (by simp [hm]) (.inl rfl), by simp⟩
    · exact ⟨hkeep (by simp [hm]), .inr (.inl hm)⟩
  | stopping =>
    dsimp only
    split
    · exact ⟨worked_tied h ha (Nat.zero_le _) (by simp) (by simp), by simp⟩
    · exact ⟨hkeep (by simp [hm]), by simp⟩

theorem declareStop_tied (m : Monitor) : m.declareStop.Tied := by
  constructor <;> simp [Monitor.declareStop]

theorem spinDown_tied (h : m.Tied) (t : Nat) : (m.spinDown t).Tied := by
  have ⟨a1, a2, a3, a4, a5, a6⟩ := h
  have hstopping (hm : m.state ≠ .unknown ∧ m.state ≠ .stopped) :
      ({ m with state := .stopping, stoppingSince := some t } : Monitor).Tied :=
    ⟨a1, by rw [← a2]; simp [hm], a3, a4, a5, by simp⟩
  unfold Monitor.spinDown
  cases hm : m.state with
  | spinningUp | settled | stopping => exact hstopping (by simp [hm])
  | stopped | unknown => exact h

theorem forgetStop_tied (h : m.Tied) : ({ m with stopRemembered := false } : Monitor).Tied :=
  ⟨h.timerIffPulse, h.silent, h.periodRange, h.periodNeedsPulse, h.stableRange, h.sinceIffStopping⟩

theorem unusedMonitor_tied : ({} : Monitor).Tied := by constructor <;> simp

/-! ### The monitors and the sweep -/

/-- The invariant reads the monitors, the engine and the straps only. -/
theorem State.SpindleInv.congr {t : State} (h : s.SpindleInv) (hm : t.monitors = s.monitors)
    (he : ∀ c, t.engine = some c → ∃ c', s.engine = some c' ∧ c'.subject = c.subject) (hs : t.straps = s.straps) :
    t.SpindleInv := by
  refine ⟨by rw [hm]; exact h.tied, fun c hc => ?_⟩
  obtain ⟨c', hc', hsub⟩ := he c hc
  have := h.sweepSettled c' hc'
  unfold State.settled State.active at *
  rwa [hm, hs, ← hsub]

theorem spindleKept : KeptBesideMap State.SpindleInv where
  core {s t} h e := by
    simp only [State.coreBesideMap, Prod.mk.injEq] at e
    obtain ⟨he, _, _, _, _, hm, _, _, hs⟩ := e
    exact h.congr hm (fun c hc => ⟨c, he ▸ hc, rfl⟩) hs
  blink _ h := h.congr rfl (fun c hc => ⟨c, hc, rfl⟩) rfl
  snapshot h := h.congr rfl (fun c hc => ⟨c, hc, rfl⟩) rfl
  takes {s r} b _ ha hr h := by
    refine ⟨h.tied, fun c hc => ?_⟩
    obtain rfl : s.buildContext r = c := Option.some.inj hc
    unfold State.eligible at hr
    simp only [Bool.and_eq_true] at hr
    exact ⟨hr.1.1, ha⟩
  ends _ _ h := ⟨h.tied, fun _ hc => by cases hc⟩
  setEngine {s c c'} he hc h := h.congr rfl (fun x hx => ⟨c, he, by cases hx; exact hc.symm⟩) rfl
  newPlan _ h := h.congr rfl (fun c hc => ⟨c, hc, rfl⟩) rfl
  powerOn _ _ h := by
    rw [exec_powerOn h]
    refine ⟨fun u => ?_, fun c hc => by cases hc⟩
    fin_cases u <;> exact unusedMonitor_tied

/-- A unit's record changes to a tied one that is SETTLED if the old one was. -/
theorem State.SpindleInv.setMonitor (h : s.SpindleInv) (u : UnitNo) (ht : m.Tied)
    (hs : m.state = .settled ∨ (s.monitors.get u).state ≠ .settled) :
    (s.setMonitors (s.monitors.set u m)).SpindleInv := by
  refine ⟨fun v => ?_, fun c hc => ⟨?_, (h.sweepSettled c hc).2⟩⟩
  · rw [State.setMonitors_monitors, PerUnit.get_set]
    split
    · exact ht
    · exact h.tied v
  · have hold := (h.sweepSettled c hc).1
    unfold State.settled at hold ⊢
    rw [State.setMonitors_monitors, PerUnit.get_set]
    split
    · next hu =>
      rw [hu] at hold
      exact decide_eq_true (hs.resolve_right (not_not.2 (of_decide_eq_true hold)))
    · exact hold

/-- A unit's record changes to any tied one and the sweep on the unit ends (R122, R145, R149). -/
theorem State.SpindleInv.endSweepOn (h : s.SpindleInv) (u : UnitNo) (ht : m.Tied) (g : Ending) :
    ((s.setMonitors (s.monitors.set u m)).endSweepOn u g).SpindleInv := by
  have htied (v : UnitNo) : ((s.monitors.set u m).get v).Tied := by
    rw [PerUnit.get_set]
    split
    · exact ht
    · exact h.tied v
  unfold State.endSweepOn
  split
  · next he => exact ⟨htied, fun c hc => by rw [he] at hc; cases hc⟩
  · next c he =>
    have ⟨hset, hact⟩ := h.sweepSettled c he
    split
    · unfold State.endSweep
      rw [he]
      refine spindleKept.look true ⟨?_, fun c' hc' => by rw [endSweepNoLook_idle] at hc'; cases hc'⟩
      obtain ⟨_, _, _, _, _, _, _, _, _, _, hf⟩ := endSweepNoLook_frame (s.setMonitors (s.monitors.set u m)) g
      rw [hf]
      exact htied
    · next hn =>
      refine ⟨htied, fun c' hc' => ?_⟩
      rw [he] at hc'
      cases hc'
      have hu : unitOf c.subject ≠ u := fun hu => hn ⟨hact, hu⟩
      unfold State.settled at hset ⊢
      rw [State.setMonitors_monitors, PerUnit.get_set_ne _ _ hu]
      exact ⟨hset, hact⟩

theorem spindleKept_kept : Kept State.SpindleInv where
  toSweepKept := spindleKept.sweepKept
  pulse {s} u h := by
    unfold State.pulse
    dsimp only
    split
    · next ha =>
      obtain ⟨ht, hs⟩ := pulse_tied (h.tied u) ha s.plan.settleCount
      split
      · next hq => exact h.setMonitor u ht (hs.resolve_left (by simp [hq]))
      · exact h.endSweepOn u ht _
      · next hq =>
        have h' := h.setMonitor u ht (hs.resolve_left (by simp [hq]))
        split
        · refine spindleKept.look false ((spindleKept.sweepKept.staleness u h').setMonitor u (forgetStop_tied ht) ?_)
          obtain ⟨_, _, hf⟩ := staleness_frame (s.setMonitors (s.monitors.set u
            ((s.monitors.get u).pulse s.now s.plan.settleCount).1)) u
          rw [hf]
          simp [em]
        · exact spindleKept.look false h'
    · exact h
  stopTimer {s} u h := by
    unfold State.stopTimer
    dsimp only
    split
    · exact h.endSweepOn u (declareStop_tied _) _
    · exact h
  spinDown u h := h.endSweepOn u (spinDown_tied (h.tied u) _) _

/-- Settles O11: a monitor that leaves SETTLED ends the sweep on its unit in the same step. -/
theorem stepKeepsSpindle : Obligations.StepKeepsSpindle := fun _ _ h hs => spindleKept_kept.step hs h

end Sys2Proof.Machine
end

section
/-! PROOFS. The drive port (R128 to R134) with the bench slot (R26) and the engine: the facts that tie a disposition and its
pieces to the slot, and the invariant through grants, completions, aborts and expiries. -/

namespace Sys2Proof.Machine

variable {s t : State}

/-! ### Dispositions and pieces (R105, R116) -/

theorem locate_length {g : Option Geometry} {f : TaskFields} {n : Nat} {secs : List Chs}
    (h : locate g f n = some secs) : secs.length = n := by
  have hrun (g : Geometry) (a : Nat) (h : g.run a n = some secs) : secs.length = n := by
    unfold Geometry.run at h
    dsimp only at h
    split at h
    · rw [← Option.some.inj h]; simp
    · cases h
  unfold locate at h
  split at h
  · split at h
    · exact hrun _ _ h
    · cases h
  · exact hrun _ _ h
  · rw [← Option.some.inj h]; simp
  · cases h

/-- The pieces' counts add up to the number of sectors (R116). -/
theorem buildPieces_sum (entryOf : Chs → EntryNo) (scope : EntryNo → Bool) (secs : List Chs) :
    ((buildPieces entryOf scope secs).map (·.count)).sum = secs.length := by
  induction secs with
  | nil => rfl
  | cons c cs ih =>
    unfold buildPieces
    split
    · next hn => rw [hn] at ih; simpa [eq_comm] using ih
    · next p ps hp =>
      rw [hp, List.map_cons, List.sum_cons] at ih
      split <;> simp <;> omega

theorem buildPieces_ne_nil (entryOf : Chs → EntryNo) (scope : EntryNo → Bool) {secs : List Chs} (h : secs ≠ []) :
    buildPieces entryOf scope secs ≠ [] := by
  cases secs with
  | nil => exact absurd rfl h
  | cons c cs =>
    unfold buildPieces
    split
    · simp
    · split <;> simp

/-- A SPLIT disposition comes with its whole list of pieces still to issue (R106 test 7, R116). -/
theorem dispositionOf_split {k : Task} {q : Sequencer} {n : CounterName} (h : s.dispositionOf k = (.split q, n)) :
    q.cursor = 0 ∧ q.pieces ≠ [] ∧ q.outstanding = q.toIssue := by
  have hread : (readDisposition s.plan (s.geometry.get k.fields.unit) s.straps.service k.fields).1 = .split q := by
    unfold State.dispositionOf at h
    split at h
    · cases hop : k.op
      case read | readRaw | verify => simpa only [activeDisposition, hop] using congrArg Prod.fst h
      case write =>
        simp only [activeDisposition, hop, writeDisposition] at h
        split at h
        · cases h
        · split at h <;> cases h
      all_goals simp [activeDisposition, hop] at h
    · cases h
  unfold readDisposition at hread
  split at hread
  · split at hread <;> cases hread
  · next secs hl =>
    have hlen := locate_length hl
    split_ifs at hread
    split at hread
    · cases hread
    · next e es hes =>
      split_ifs at hread
      cases hread
      have hne : secs ≠ [] := by rintro rfl; cases hes
      refine ⟨rfl, buildPieces_ne_nil _ _ hne, ?_⟩
      simp [Sequencer.toIssue, buildPieces_sum, hlen]

/-- Issuing the piece at the cursor leaves the others to issue (R117). -/
theorem afterIssue_toIssue {q : Sequencer} {p : Piece} (hp : q.pieces[q.cursor]? = some p)
    (h : q.outstanding = q.toIssue) :
    (q.afterIssue p).outstanding = (q.afterIssue p).toIssue ∧ q.cursor + 1 ≤ q.pieces.length := by
  obtain ⟨hlt, hget⟩ := List.getElem?_eq_some_iff.1 hp
  refine ⟨?_, hlt⟩
  unfold Sequencer.toIssue at h
  rw [← List.cons_getElem_drop_succ (h := hlt), List.map_cons, List.sum_cons, hget] at h
  simp [Sequencer.afterIssue, Sequencer.toIssue, h]

/-- A SPLIT task with its piece issued fits ISSUED (R26, R117). -/
theorem fits_of_issuePiece {b : BenchTask} {q : Sequencer} {p : Piece} (hb : b.phase = .issued)
    (hp : q.pieces[q.cursor]? = some p) (h : q.outstanding = q.toIssue) :
    ({ b with disp := .split (q.afterIssue p) } : BenchTask).Fits := by
  obtain ⟨hout, hlen⟩ := afterIssue_toIssue hp h
  unfold BenchTask.Fits
  simp only [hb]
  refine ⟨by simp, fun q' hq' => ?_⟩
  cases hq'
  exact ⟨by simp [Sequencer.afterIssue], hlen, hout⟩

/-! ### The invariant, and its part that does not look at the engine -/

/-- The port's invariant beside the engine. -/
structure State.PortTied (s : State) : Prop where
  slotFits : ∀ b, s.slot = some b → b.Fits
  benchHolds : ∀ u, s.port.state = .bench u ↔ ∃ b, s.slot = some b ∧ b.phase = .issued ∧ b.task.fields.unit = u
  taskUnlessFree : s.port.task = none ↔ s.port.state.isFree = true
  graceRunRange : s.port.graceRun ≤ 255

theorem State.PortInv.portTied (h : s.PortInv) : s.PortTied :=
  ⟨h.slotFits, h.benchHolds, h.taskUnlessFree, h.graceRunRange⟩

/-- With no task of a running sweep on the port the engine has none in flight. -/
theorem State.PortTied.portInv (h : s.PortTied) (hr : s.port.state.runningTask = false)
    (he : ∀ c, s.engine = some c → c.flight = none) : s.PortInv :=
  ⟨h.slotFits, h.benchHolds, fun c hc => by simp [he c hc, hr], by simp [hr], h.taskUnlessFree, h.graceRunRange⟩

theorem State.PortInv.congr (h : s.PortInv) (hs : t.slot = s.slot) (hp : t.port = s.port)
    (he : t.engine = s.engine) : t.PortInv :=
  ⟨by rw [hs]; exact h.slotFits, by rw [hs, hp]; exact h.benchHolds, by rw [he, hp]; exact h.sweepHolds,
    by rw [he, hp]; exact h.runningHasSweep, by rw [hp]; exact h.taskUnlessFree, by rw [hp]; exact h.graceRunRange⟩

theorem State.PortTied.congr (h : s.PortTied) (hs : t.slot = s.slot) (hp : t.port = s.port) : t.PortTied :=
  ⟨by rw [hs]; exact h.slotFits, by rw [hs, hp]; exact h.benchHolds, by rw [hp]; exact h.taskUnlessFree,
    by rw [hp]; exact h.graceRunRange⟩

theorem runningTask_of_idle (h : s.PortInv) (he : s.engine = none) : s.port.state.runningTask = false := by
  by_contra hr
  simpa [he] using h.runningHasSweep (by simpa using hr)

/-- A port that is held by no sweep leaves the engine without a task in flight. -/
theorem flight_of_notRunning (h : s.PortInv) (hr : s.port.state.runningTask = false) {c : Context}
    (hc : s.engine = some c) : c.flight = none := by
  have := h.sweepHolds c hc
  rw [hr] at this
  simpa using this

theorem takeRecord_engine (s : State) (b : Bool) (r : QueueRec) :
    (s.takeRecord b r).engine = some (s.buildContext r) := by
  unfold State.takeRecord
  obtain ⟨_, _, h⟩ := reoffer_frame (({ s with
    engine := some (s.buildContext r)
    queue := s.queue.erase r
    swmark := s.swmarkStart b
    blink := some ⟨true, s.now + Config.blinkHalf⟩ } : State).setEntry r.entry
      { s.entry r.entry with state := .measuring, candidate := none })
  exact congrArg State.engine h

/-! ### Looks and endings -/

theorem look_slot_port (s : State) (b : Bool) : (s.look b).slot = s.slot ∧ (s.look b).port = s.port := by
  obtain ⟨_, _, _, _, _, h⟩ := look_frame s b; rw [h]; exact ⟨rfl, rfl⟩

theorem State.PortInv.look (b : Bool) (h : s.PortInv) : (s.look b).PortInv := by
  obtain ⟨hs, hp⟩ := look_slot_port s b
  rcases look_cases s b with e | ⟨r, _, he, _, _, e⟩
  · rwa [e]
  · refine (h.portTied.congr hs hp).portInv (by rw [hp]; exact runningTask_of_idle h he) fun c hc => ?_
    rw [e, takeRecord_engine] at hc
    cases hc
    rfl

/-- An orphaned task is a sweep's no more; bench tasks and a free or wedged port stay (R97). -/
theorem orphan_facts (p : Port) (c : Context) :
    (p.orphan c).state.runningTask = false ∧ (∀ u, (p.orphan c).state = .bench u ↔ p.state = .bench u) ∧
      (p.orphan c).task = p.task ∧ (p.orphan c).state.isFree = p.state.isFree ∧ (p.orphan c).graceRun = p.graceRun := by
  have hown (c : Context) : ∃ l, c.leftOver = .leftOver l := by
    unfold Context.leftOver; split <;> exact ⟨_, rfl⟩
  obtain ⟨l, hl⟩ := hown c
  unfold Port.orphan
  split <;> simp [*, PortState.runningTask, PortState.isFree]

/-- An ending, its look aside, leaves no task of a running sweep (R97). -/
theorem State.PortTied.endSweepNoLook {c : Context} (g : Ending) (h : s.PortTied) (he : s.engine = some c) :
    (s.endSweepNoLook g).PortInv := by
  obtain ⟨hr, hb, ht, hf, hg⟩ := orphan_facts s.port c
  have hp := endSweepNoLook_port s g he
  have hs : (s.endSweepNoLook g).slot = s.slot := by
    obtain ⟨_, _, _, _, _, _, _, _, _, _, hf⟩ := endSweepNoLook_frame s g; rw [hf]
  refine State.PortTied.portInv ⟨by rw [hs]; exact h.slotFits, fun u => ?_, ?_, ?_⟩ (by rw [hp]; exact hr) fun c hc => ?_
  · rw [hp, hs, hb]; exact h.benchHolds u
  · rw [hp, ht, hf]; exact h.taskUnlessFree
  · rw [hp, hg]; exact h.graceRunRange
  · rw [endSweepNoLook_idle] at hc; cases hc

theorem State.PortTied.endSweep {c : Context} (g : Ending) (h : s.PortTied) (he : s.engine = some c) :
    (s.endSweep g).PortInv := by
  unfold State.endSweep
  rw [he]
  exact (h.endSweepNoLook g he).look true

/-- An ending of a sweep, if one runs. -/
theorem State.PortInv.endSweep (g : Ending) (h : s.PortInv) : (s.endSweep g).PortInv := by
  cases he : s.engine with
  | none => rwa [endSweep_of_idle s g he]
  | some c => exact h.portTied.endSweep g he

/-- The events of the map, of plans and of endings keep the port's invariant and the slot. -/
theorem portEventKept (b : Option BenchTask) : EventKept fun s => s.PortInv ∧ s.slot = b := by
  refine EventKept.ofEndings (fun {s t} h e hs hp => ?_) (fun f h => ?_) (fun {s} b h => ?_) (fun {s} g h => ?_)
    fun _ h => ⟨h.1.congr rfl rfl rfl, h.2⟩
  · simp only [State.core, Prod.mk.injEq] at e
    obtain ⟨_, _, he, _⟩ := e
    exact ⟨h.1.congr hs hp he, hs.trans h.2⟩
  · obtain ⟨_, _, rfl⟩ := f
    exact ⟨h.1.congr rfl rfl rfl, h.2⟩
  · exact ⟨h.1.look b, (look_slot_port s b).1.trans h.2⟩
  · have hs : (s.endSweepNoLook g).slot = s.slot := by
      obtain ⟨_, _, _, _, _, _, _, _, _, _, hf⟩ := endSweepNoLook_frame s g; rw [hf]
    refine ⟨?_, hs.trans h.2⟩
    cases he : s.engine with
    | none => rw [State.endSweepNoLook, he]; exact h.1
    | some c => exact h.1.portTied.endSweepNoLook g he

theorem portMonitorsKept {b : Option BenchTask} (m : PerUnit Monitor) (h : s.PortInv ∧ s.slot = b) :
    (s.setMonitors m).PortInv ∧ (s.setMonitors m).slot = b :=
  ⟨h.1.congr rfl rfl rfl, h.2⟩

/-! ### The slot -/

/-- A slot that is not ISSUED takes another that is not (R26). -/
theorem State.PortInv.setSlot_unissued {b : Option BenchTask} (h : s.PortInv)
    (hs : ∀ a, s.slot = some a → a.phase ≠ .issued) (hb : ∀ a, b = some a → a.phase ≠ .issued ∧ a.Fits) :
    (s.setSlot b).PortInv := by
  refine ⟨fun a ha => (hb a ha).2, fun u => ⟨fun hu => ?_, ?_⟩, h.sweepHolds, h.runningHasSweep, h.taskUnlessFree,
    h.graceRunRange⟩
  · obtain ⟨a, ha, hi, _⟩ := (h.benchHolds u).1 hu
    exact absurd hi (hs a ha)
  · rintro ⟨a, ha, hi, _⟩
    exact absurd hi (hb a ha).1

/-- An ISSUED slot takes another of the same unit. -/
theorem State.PortInv.setSlot_issued {a b : BenchTask} (h : s.PortInv) (hs : s.slot = some a)
    (ha : a.phase = .issued) (hb : b.phase = .issued) (hu : b.task.fields.unit = a.task.fields.unit) (hf : b.Fits) :
    (s.setSlot (some b)).PortInv := by
  refine ⟨fun x hx => by cases hx; exact hf, fun u => ?_, h.sweepHolds, h.runningHasSweep, h.taskUnlessFree,
    h.graceRunRange⟩
  rw [State.setSlot_port, h.benchHolds u, hs]
  simp [ha, hb, hu]

/-- A bench task on the port with its record on the drive side (R131). -/
theorem portInv_of_issued {b : BenchTask} (hs : s.slot = some b) (hb : b.phase = .issued) (hf : b.Fits)
    (hp : s.port.state = .bench b.task.fields.unit) (ht : s.port.task ≠ none) (hg : s.port.graceRun ≤ 255)
    (he : ∀ c, s.engine = some c → c.flight = none) : s.PortInv := by
  refine State.PortTied.portInv ⟨fun x hx => ?_, fun u => ?_, ?_, hg⟩ (by rw [hp]; rfl) he
  · rw [hs] at hx; cases hx; exact hf
  · rw [hp, hs]; simp [hb]
  · rw [hp]; simp [ht, PortState.isFree]

/-- What an ISSUED slot says of the port and the engine. -/
theorem State.PortInv.issued_facts {b : BenchTask} (h : s.PortInv) (hs : s.slot = some b) (hb : b.phase = .issued) :
    s.port.state = .bench b.task.fields.unit ∧ s.port.task ≠ none ∧ ∀ c, s.engine = some c → c.flight = none := by
  have hp := (h.benchHolds _).2 ⟨b, hs, hb, rfl⟩
  refine ⟨hp, fun ht => ?_, fun c => flight_of_notRunning h (by rw [hp]; rfl)⟩
  have := h.taskUnlessFree.1 ht
  simp [hp, PortState.isFree] at this

/-- A bench task gives up the port with a completion for the bench (R131). -/
theorem State.PortInv.releaseBench {a : BenchTask} (b : BenchTask) (k : Completion) (h : s.PortInv)
    (hs : s.slot = some a) (ha : a.phase = .issued) : (s.releaseBench b k).PortInv := by
  obtain ⟨_, _, he⟩ := h.issued_facts hs ha
  refine State.PortTied.portInv ⟨fun x hx => by cases hx; trivial, fun u => ?_, ?_, h.graceRunRange⟩ rfl he
  · simp [State.releaseBench, State.freePort]
  · simp [State.releaseBench, State.freePort, PortState.isFree]

/-- The next piece goes out under the same grant (R117, R118). -/
theorem State.PortInv.issuePiece {a b : BenchTask} {q : Sequencer} (h : s.PortInv) (hs : s.slot = some a)
    (ha : a.phase = .issued) (hb : b.phase = .issued) (hu : b.task.fields.unit = a.task.fields.unit)
    (hq : q.outstanding = q.toIssue) : (s.issuePiece b q).PortInv := by
  obtain ⟨hp, _, he⟩ := h.issued_facts hs ha
  unfold State.issuePiece
  split
  · next p hget =>
    exact portInv_of_issued (b := { b with disp := .split (q.afterIssue p) }) rfl hb (fits_of_issuePiece hb hget hq)
      (hp.trans (by rw [hu])) (by simp [State.putOnDrive]) h.graceRunRange he
  · exact h

/-! ### The effects -/

theorem issuedTask_iff {b : BenchTask} : s.issuedTask = some b ↔ s.slot = some b ∧ b.phase = .issued := by
  unfold State.issuedTask
  cases s.slot with
  | none => simp
  | some a => by_cases h : a.phase = .issued <;> simp [h] <;> grind

/-- A bench task as a completion or an abort finds it: the slot's own, but for its abort mark. -/
structure BenchTask.Same (a b : BenchTask) : Prop where
  phase : b.phase = a.phase
  disp : b.disp = a.disp
  task : b.task = a.task

theorem BenchTask.Same.fits {a b : BenchTask} (h : a.Same b) (hf : a.Fits) : b.Fits := by
  unfold BenchTask.Fits at *; rwa [h.phase, h.disp]

theorem State.PortInv.watchCompletion {a b : BenchTask} (k : Completion) (h : s.PortInv) (hs : s.slot = some a) :
    (s.watchCompletion b k).PortInv ∧ (s.watchCompletion b k).slot = some a := by
  have K := portEventKept (some a)
  unfold State.watchCompletion State.watchGeometry
  split
  · exact K.driftEvent _ _ _ ⟨h, hs⟩
  · exact K.judgeCopy ⟨h, hs⟩
  all_goals
    dsimp only
    split
    · exact K.side ⟨h, hs⟩ rfl rfl rfl
    · exact ⟨h, hs⟩

theorem State.PortInv.wholeDone {a b : BenchTask} (k : Completion) (h : s.PortInv) (hs : s.slot = some a)
    (ha : a.phase = .issued) : (s.wholeDone b k).PortInv := by
  obtain ⟨hw, hws⟩ := h.watchCompletion (b := b) k hs
  exact hw.releaseBench _ _ hws ha

theorem State.PortInv.pieceDrift {a : BenchTask} (op : Op) (p : Piece) (k : Completion) (h : s.PortInv)
    (hs : s.slot = some a) : (s.pieceDrift op p k).PortInv ∧ (s.pieceDrift op p k).slot = some a := by
  unfold State.pieceDrift
  split
  · exact (portEventKept (some a)).driftEvent _ _ _ ⟨h, hs⟩
  · exact ⟨h, hs⟩

theorem State.PortInv.pieceDone {a b : BenchTask} {q : Sequencer} (p : Piece) (k : Completion) (behind : Bool)
    (h : s.PortInv) (hs : s.slot = some a) (ha : a.phase = .issued) (hab : a.Same b) (hd : a.disp = .split q) :
    (s.pieceDone b q p k behind).PortInv := by
  have hw := h.pieceDrift b.task.op p k hs
  have hfits := h.slotFits a hs
  unfold BenchTask.Fits at hfits
  rw [ha] at hfits
  obtain ⟨_, _, hout⟩ := hfits.2 q hd
  unfold State.pieceDone
  dsimp only
  split
  · exact hw.1.releaseBench _ _ hw.2 ha
  · split
    · split
      · exact hw.1.releaseBench _ _ hw.2 ha
      · exact hw.1.issuePiece hw.2 ha (hab.phase.trans ha) (by rw [hab.task]) hout
    · exact hw.1.releaseBench _ _ hw.2 ha

theorem State.PortInv.abortIssued {a : BenchTask} (moving : Bool) (h : s.PortInv) (hs : s.slot = some a)
    (ha : a.phase = .issued) : (s.abortIssued a moving).PortInv := by
  have hfits := h.slotFits a hs
  have hsame : a.Same { a with abort := true } := ⟨rfl, rfl, rfl⟩
  unfold State.abortIssued
  split
  · have hport : (s.setPort { s.port with abort := true }).PortInv :=
      ⟨h.slotFits, h.benchHolds, h.sweepHolds, h.runningHasSweep, h.taskUnlessFree, h.graceRunRange⟩
    exact hport.setSlot_issued hs ha ha rfl (BenchTask.Same.fits ⟨rfl, rfl, rfl⟩ hfits)
  · dsimp only
    split
    · next q hd =>
      split
      · exact h.pieceDone _ _ _ hs ha hsame hd
      · exact h.setSlot_issued hs ha ha rfl (hsame.fits hfits)
    all_goals exact h.wholeDone _ hs ha

theorem State.PortInv.localAborts {a b : BenchTask} (l : List Nat) (moving : Bool) (h : s.PortInv)
    (hs : s.slot = some a) (ha : a.phase ≠ .issued) : (s.localAborts b l moving).PortInv := by
  have hx : ∀ {x : State}, x.slot = s.slot → x.port = s.port → x.engine = s.engine → ∀ b' k, b'.phase = .completing k →
      (x.setSlot (some b')).PortInv := fun h1 h2 h3 b' k hb' =>
    (h.congr h1 h2 h3).setSlot_unissued (fun y hy => by rw [h1, hs] at hy; cases hy; exact ha) fun y hy => by
      cases hy; simp [hb', BenchTask.Fits]
  cases moving with
  | false => exact hx rfl rfl rfl { b with phase := .completing _ } _ rfl
  | true =>
    exact hx (x := s.passLocal b.task.op (l.getD b.passed 0)) rfl rfl rfl
      { b with passed := b.passed + 1, phase := .completing _ } _ rfl

theorem State.PortInv.benchAborts (moving beforeRecord : Bool) (h : s.PortInv) :
    (s.benchAborts moving beforeRecord).PortInv := by
  unfold State.benchAborts
  split
  · exact h
  · next a hs =>
    split
    · next hp =>
      refine h.setSlot_unissued (fun x hx => ?_) fun x hx => ?_
      · rw [hs] at hx; cases hx; simp [hp]
      · cases hx; simp [BenchTask.Fits]
    · next hp =>
      split
      · exact h.localAborts _ _ hs (by simp [hp])
      all_goals exact h
    · next hp => exact h.abortIssued moving hs hp
    · next hp =>
      unfold State.completingAborts
      split
      · split
        · exact h.localAborts _ _ hs (by simp [hp])
        · exact h
      all_goals exact h
    · exact h

/-- The port comes to be free with nothing in flight (R132, R138). -/
theorem State.PortInv.freed (h : s.PortInv) (hp : ∀ u, s.port.state ≠ .bench u)
    (he : ∀ c, t.engine = some c → c.flight = none) (hs : t.slot = s.slot) (ht : t.port.task = none) {g : Option Nat}
    (hf : t.port.state = .free g) (hg : t.port.graceRun = s.port.graceRun) : t.PortInv := by
  refine State.PortTied.portInv ⟨by rw [hs]; exact h.slotFits, fun u => ?_, ?_, by rw [hg]; exact h.graceRunRange⟩
    (by rw [hf]; rfl) he
  · rw [hs, ← h.benchHolds u, hf]; simp [hp u]
  · rw [ht, hf]; simp [PortState.isFree]

theorem State.PortInv.freePort (h : s.PortInv) (hp : ∀ u, s.port.state ≠ .bench u)
    (hr : s.port.state.runningTask = false) : (s.freePort none).PortInv :=
  h.freed hp (fun _ hc => flight_of_notRunning h hr hc) rfl rfl rfl rfl

theorem State.PortInv.sweepTaskDone (h : s.PortInv) (hp : ∀ u, s.port.state ≠ .bench u) : s.sweepTaskDone.PortInv := by
  refine h.freed hp (fun c hc => ?_) rfl rfl rfl rfl
  obtain ⟨_, _, rfl⟩ := Option.map_eq_some_iff.1 (show s.engine.map _ = some c from hc)
  rfl

/-- The engine's context changes, with nothing in flight before or after (R54, R61). -/
theorem State.PortInv.setEngine_idleFlight {c c' : Context} (h : s.PortInv) (he : s.engine = some c)
    (hc : c.flight = none) (hc' : c'.flight = none) : (s.setEngine (some c')).PortInv := by
  refine ⟨h.slotFits, h.benchHolds, fun x hx => ?_, fun _ => rfl, h.taskUnlessFree, h.graceRunRange⟩
  cases hx
  rw [hc', ← hc]
  exact h.sweepHolds c he

theorem State.PortInv.layDone {c : Context} (st : Status) (h : s.PortInv) (hp : ∀ u, s.port.state ≠ .bench u)
    (he : s.engine = some c) : (s.layDone c st).PortInv := by
  have hd := h.sweepTaskDone hp
  unfold State.layDone
  cases st with
  | good =>
    exact State.PortInv.setEngine_idleFlight (c := { c with flight := none })
      (hd.congr (t := s.sweepTaskDone.setEntry c.subject _) rfl rfl rfl) (sweepTaskDone_engine he) rfl rfl
  | error k => exact hd.endSweep _

theorem advance_flight {c c' : Context} (h : c.advance = some c') : c'.flight = c.flight := by
  unfold Context.advance at h
  split at h
  · cases h; rfl
  · split at h
    · cases h; rfl
    · cases h

theorem State.PortInv.pointDone {c : Context} (f : Flight) (i : Nat) (st : Status) (h : s.PortInv)
    (hp : ∀ u, s.port.state ≠ .bench u) (he : s.engine = some c) : (s.pointDone c f i st).PortInv := by
  have hd := h.sweepTaskDone hp
  have hde := sweepTaskDone_engine he
  unfold State.pointDone
  dsimp only
  split
  · next c' hc' => exact hd.setEngine_idleFlight hde rfl (advance_flight hc')
  · exact (hd.setEngine_idleFlight hde rfl rfl).endSweep _

theorem State.PortInv.abortingDone (w : Owner) (h : s.PortInv) (hp : ∀ u, s.port.state ≠ .bench u)
    (hr : ∀ l, w = .leftOver l → s.port.state.runningTask = false) : (s.abortingDone w).PortInv := by
  cases w with
  | running => exact (h.sweepTaskDone hp).endSweep _
  | leftOver l => exact h.freePort hp (hr l rfl)

/-- The port passes from one held state to another, a sweep's task to a sweep's task (R137). -/
theorem State.PortInv.setPort_held (h : s.PortInv) {p : Port} (hf : s.port.state.isFree = false)
    (hf' : p.state.isFree = false) (hb : ∀ u, s.port.state ≠ .bench u) (hb' : ∀ u, p.state ≠ .bench u)
    (hr : p.state.runningTask = s.port.state.runningTask) (ht : p.task = s.port.task)
    (hg : p.graceRun = s.port.graceRun) : (s.setPort p).PortInv := by
  refine ⟨h.slotFits, fun u => ?_, ?_, ?_, ?_, by simpa [hg] using h.graceRunRange⟩
  · rw [State.setPort_slot, ← h.benchHolds u]; simp [hb u, hb' u]
  · rw [State.setPort_port, hr]; exact h.sweepHolds
  · rw [State.setPort_port, hr]; exact h.runningHasSweep
  · rw [State.setPort_port, ht, h.taskUnlessFree, hf, hf']

theorem State.PortInv.expireTask {u : UnitNo} {w : Owner} {e n : Nat} (h : s.PortInv)
    (hp : s.port.state = .sweep u w e n) : (s.expireTask u w e n).PortInv := by
  unfold State.expireTask
  split
  · refine h.setPort_held ?_ rfl ?_ ?_ ?_ rfl rfl
    · simp [hp, PortState.isFree]
    · simp [hp]
    · simp
    · rw [hp]; cases w <;> rfl
  · exact h.abortingDone w (by simp [hp]) (by rintro l rfl; rw [hp]; rfl)

theorem State.PortInv.wedge {u : UnitNo} {w : Owner} {e : Nat} (h : s.PortInv)
    (hp : s.port.state = .aborting u w e) : (s.wedge u w).PortInv := by
  have hf : s.port.state.isFree = false := by simp [hp, PortState.isFree]
  have hb : ∀ v, s.port.state ≠ .bench v := by simp [hp]
  unfold State.wedge
  cases w with
  | leftOver l =>
    exact h.setPort_held hf (p := { s.port with state := .wedged u l }) rfl hb (by simp) (by rw [hp]; rfl) rfl rfl
  | running =>
    have hx : ((s.setPort { s.port with state := .wedged u Owner.running.lay }).setEngine
        (s.engine.map fun c => { c with flight := none })).PortInv := by
      refine State.PortTied.portInv ⟨h.slotFits, fun v => ?_, ?_, h.graceRunRange⟩ rfl fun c hc => ?_
      · rw [State.setEngine_slot, State.setPort_slot, ← h.benchHolds v]; simp [hb v]
      · have := h.taskUnlessFree
        rw [hf] at this
        simpa [PortState.isFree] using this
      · obtain ⟨_, _, rfl⟩ := Option.map_eq_some_iff.1 (show s.engine.map _ = some c from hc)
        rfl
    exact hx.endSweep _

theorem cableResets_portInv (s : State) : s.cableResets.PortInv := by
  have hr : s.resetBlocks.PortTied :=
    ⟨(fun _ hb => nomatch hb), by simp [State.resetBlocks], by simp [State.resetBlocks, PortState.isFree],
      by simp [State.resetBlocks]⟩
  unfold State.cableResets
  dsimp only
  split
  · next c hc => exact hr.endSweep _ hc
  · next hc =>
    have hinv := hr.portInv rfl fun c hc' => by rw [hc] at hc'; cases hc'
    split
    · exact hinv.look false
    · exact hinv

theorem bench_notRunning {p : PortState} (h : p.runningTask = true) (u : UnitNo) : p ≠ .bench u := by
  rintro rfl; cases h

theorem runningSweep_notBench {p : PortState} (h : p.runningSweep = true) (u : UnitNo) : p ≠ .bench u := by
  rintro rfl; cases h

theorem leftOverTask_facts {p : PortState} (h : p.leftOverTask = true) : (∀ u, p ≠ .bench u) ∧ p.runningTask = false := by
  unfold PortState.leftOverTask at h
  split at h <;> simp_all [PortState.runningTask]

theorem openFor_facts (p : Port) (u : UnitNo) : (p.openFor u).state = p.state ∧ (p.openFor u).graceRun = p.graceRun ∧
    ((p.openFor u).task = none ↔ p.task = none) := by
  unfold Port.openFor
  split
  · split <;> simp [*]
  · simp [*]

theorem endGrace_facts (p : Port) (now : Nat) : (p.endGrace now).graceRun = p.graceRun ∧
    (p.endGrace now).task = p.task ∧ (p.endGrace now).state.isFree = p.state.isFree ∧
    (p.endGrace now).state.runningTask = p.state.runningTask ∧
    ∀ u, (p.endGrace now).state = .bench u ↔ p.state = .bench u := by
  unfold Port.endGrace
  split
  · split <;> simp [*, PortState.isFree, PortState.runningTask]
  all_goals simp [*]

theorem State.PortInv.effect {x : State} (h : s.PortInv) (e : Effect s x) : x.PortInv := by
  have kept : ∀ {x : State}, x.slot = s.slot → x.port = s.port → x.engine = s.engine → x.PortInv := h.congr
  have K := portEventKept s.slot
  have hK : s.PortInv ∧ s.slot = s.slot := ⟨h, rfl⟩
  cases e
  case driveChanges u d =>
    unfold State.driveChanges
    dsimp only
    split
    · exact kept rfl rfl rfl
    · obtain ⟨h1, h2, h3⟩ := openFor_facts s.port u
      exact ⟨h.slotFits, by simpa [h1] using h.benchHolds, by simpa [h1] using h.sweepHolds,
        by simpa [h1] using h.runningHasSweep, by simpa [h1, h3] using h.taskUnlessFree, by simpa [h2] using h.graceRunRange⟩
  case driveSector bytes b _ hb _ =>
    obtain ⟨hs, hp⟩ := issuedTask_iff.1 hb
    exact State.PortInv.setSlot_issued (s := { s with benchData := bytes }) (kept rfl rfl rfl) hs hp hp rfl
      (BenchTask.Same.fits ⟨rfl, rfl, rfl⟩ (h.slotFits b hs))
  case benchSector bytes b _ hb _ _ =>
    obtain ⟨hs, hp⟩ := issuedTask_iff.1 hb
    exact State.PortInv.setSlot_issued (s := { s with driveData := bytes, copy := copyAfter s.copy b bytes })
      (kept rfl rfl rfl) hs hp hp rfl (BenchTask.Same.fits ⟨rfl, rfl, rfl⟩ (h.slotFits b hs))
  case localSector b l hs hp hd =>
    refine State.PortInv.setSlot_unissued (s := s.passLocal _ _) (kept rfl rfl rfl) (fun x hx => ?_) fun x hx => ?_
    · have : s.slot = some x := hx
      rw [hs] at this; cases this; simp [hp]
    · cases hx
      unfold BenchTask.Fits
      dsimp only
      split <;> simp [hd]
  case completionTaken b k hs hp =>
    exact h.setSlot_unissued (fun x hx => by rw [hs] at hx; cases hx; simp [hp]) fun x hx => by cases hx
  case wholeDone b k _ hb _ =>
    obtain ⟨hs, hp⟩ := issuedTask_iff.1 hb
    exact h.wholeDone k hs hp
  case pieceDone b q p k a _ hb hd _ =>
    obtain ⟨hs, hp⟩ := issuedTask_iff.1 hb
    exact h.pieceDone p k a hs hp ⟨rfl, rfl, rfl⟩ hd
  case benchAborts => exact h.benchAborts _ _
  case cableResets => exact cableResets_portInv s
  case comparatorSector bytes c f i _ _ hc hf _ =>
    refine ⟨h.slotFits, h.benchHolds, fun x hx => ?_, fun _ => rfl, h.taskUnlessFree, h.graceRunRange⟩
    cases hx
    have := h.sweepHolds c hc
    rw [hf] at this
    simpa using this
  case layDone c f st _ hr hc _ _ => exact h.layDone st (runningSweep_notBench hr) hc
  case pointDone c f i st _ hr hc _ _ => exact h.pointDone f i st (runningSweep_notBench hr) hc
  case abortingDone u w e _ hp => exact h.abortingDone w (by simp [hp]) (by rintro l rfl; rw [hp]; rfl)
  case leftOverDone _ hl => exact h.freePort (leftOverTask_facts hl).1 (leftOverTask_facts hl).2
  case lateDone u l _ hp => exact (h.freePort (by simp [hp]) (by rw [hp]; rfl)).look false
  case taskExpires u w e n hp _ => exact h.expireTask hp
  case secondExpires u w e hp _ => exact h.wedge hp
  case graceEnds =>
    obtain ⟨h1, h2, h3, h4, h5⟩ := endGrace_facts s.port s.now
    exact ⟨h.slotFits, fun u => (h5 u).trans (h.benchHolds u), by simpa [h4] using h.sweepHolds,
      by simpa [h4] using h.runningHasSweep, by simpa [h2, h3] using h.taskUnlessFree, by simpa [h1] using h.graceRunRange⟩
  case indexPulse u =>
    exact (K.pulseOf portMonitorsKept u (s := { s with indexOut := some (u, s.now) }) ⟨kept rfl rfl rfl, rfl⟩).1
  case stopTimer u => exact (K.stopTimerOf portMonitorsKept u hK).1
  case second => exact (K.markSecond hK).1
  case holdSettles =>
    unfold State.holdSettles
    dsimp only
    split
    · exact State.PortInv.look false (kept rfl rfl rfl)
    · exact kept rfl rfl rfl
  all_goals exact kept rfl rfl rfl

/-! ### The work that ends a command -/

/-- An admitted task fits the state it waits in, or is answered by the part (R26, R105). -/
theorem State.PortInv.takeTask (k : Task) (h : s.PortInv) (hs : s.slot = none) : (s.takeTask k).PortInv := by
  have hx : ∀ {x : State}, x.slot = s.slot → x.port = s.port → x.engine = s.engine → ∀ b : BenchTask, b.phase ≠ .issued →
      b.Fits → (x.setSlot (some b)).PortInv := fun h1 h2 h3 b hb hf =>
    (h.congr h1 h2 h3).setSlot_unissued (fun y hy => by rw [h1, hs] at hy; cases hy) fun y hy => by cases hy; exact ⟨hb, hf⟩
  have hwaits (d : Disposition) (n : CounterName) (hd : s.dispositionOf k = (d, n)) (hl : ∀ l, d ≠ .localAnswer l) :
      ({ task := k, disp := d, phase := .waiting } : BenchTask).Fits :=
    ⟨hl, fun q hq => dispositionOf_split (n := n) (hd.trans (congrArg (·, n) hq))⟩
  cases hd : s.dispositionOf k with
  | mk d n =>
    by_cases hl : ∀ l, d ≠ .localAnswer l
    · rw [takeTask_waits s k hd hl]
      exact hx (x := { s with counters := s.counters.bump n }) rfl rfl rfl _ (by simp) (hwaits d n hd hl)
    · obtain ⟨l, rfl⟩ := by simpa using hl
      unfold State.takeTask
      rw [hd]
      dsimp only
      refine hx ?_ ?_ ?_ _ ?_ ?_
      iterate 3 split <;> rfl
      · split <;> simp
      · unfold BenchTask.Fits
        dsimp only
        split
        · next hp => split at hp <;> cases hp
        · exact ⟨l, rfl⟩
        · next hp => split at hp <;> cases hp
        · next hp => split at hp <;> cases hp
        · trivial

theorem State.PortInv.takePresented (h : s.PortInv) : s.takePresented.PortInv := by
  unfold State.takePresented
  split
  · exact h
  · split
    · next hr =>
      obtain ⟨_, _, hs⟩ := (benchReady_iff s).1 hr
      exact State.PortInv.takeTask _ (h.congr rfl rfl rfl) hs
    · exact h

theorem graceRunAtGrant_le (g : Option Nat) (h : s.port.graceRun ≤ 255) : s.graceRunAtGrant g ≤ 255 := by
  unfold State.graceRunAtGrant; split <;> omega

/-- A grant to the bench slot: its task is issued, whole or by its first piece (R131). -/
theorem State.PortInv.grantBench {b : BenchTask} {g : Option Nat} (h : s.PortInv) (hs : s.slot = some b)
    (hb : b.phase = .waiting) (hp : s.port.state = .free g) : (s.grantBench b g).PortInv := by
  have hfits := h.slotFits b hs
  unfold BenchTask.Fits at hfits
  rw [hb] at hfits
  obtain ⟨hlocal, hsplit⟩ := hfits
  have hgrace := graceRunAtGrant_le g h.graceRunRange
  have he : ∀ c, s.engine = some c → c.flight = none := fun c => flight_of_notRunning h (by rw [hp]; rfl)
  have hissued {x : State} (b' : BenchTask) (hb' : b'.phase = .issued) (hu : b'.task.fields.unit = b.task.fields.unit)
      (hf : b'.Fits) (h1 : x.slot = some b') (h2 : x.port.state = .bench b.task.fields.unit) (h3 : x.port.task ≠ none)
      (h4 : x.port.graceRun = s.graceRunAtGrant g) (h5 : x.engine = s.engine) : x.PortInv :=
    portInv_of_issued h1 hb' hf (h2.trans (by rw [hu])) h3 (h4 ▸ hgrace) (h5 ▸ he)
  have hwhole (hd : ∀ q, b.disp ≠ .split q) : ({ b with phase := .issued } : BenchTask).Fits :=
    ⟨hlocal, fun q hq => absurd hq (hd q)⟩
  have heffects (k : Task) (x : State) (hx : x.PortInv) : (x.issueEffects k).PortInv :=
    ((portEventKept x.slot).issueEffectsOf (fun u h => (portEventKept x.slot).spinDownOf portMonitorsKept u h) k
      ⟨hx, rfl⟩).1
  unfold State.grantBench State.issueBench
  dsimp only
  split
  · next hd =>
    exact heffects _ _ (hissued { b with phase := .issued } rfl rfl (hwhole (by simp [hd])) rfl rfl
      (by simp [State.putOnDrive]) rfl rfl)
  · next l hd => exact absurd hd (hlocal l)
  · next hd =>
    exact hissued { b with phase := .issued } rfl rfl (hwhole (by simp [hd])) rfl rfl (by simp [State.putOnDrive]) rfl rfl
  · next q hd =>
    obtain ⟨hc, hne, hout⟩ := hsplit q hd
    have hlt : q.cursor < q.pieces.length := by rw [hc]; exact List.length_pos_iff.2 hne
    have hget : q.pieces[q.cursor]? = some q.pieces[q.cursor] := List.getElem?_eq_getElem hlt
    unfold State.issuePiece
    rw [hget]
    exact hissued { b with phase := .issued, disp := .split (q.afterIssue q.pieces[q.cursor]) } rfl rfl
      (fits_of_issuePiece (b := { b with phase := .issued }) rfl hget hout) rfl rfl (by simp [State.putOnDrive]) rfl rfl
  · next hd =>
    exact heffects _ _ (hissued { b with phase := .issued } rfl rfl (hwhole (by simp [hd])) rfl rfl
      (by simp [State.putOnDrive]) rfl rfl)

theorem benchAsks_iff {b : BenchTask} : s.benchAsks = some b ↔ s.slot = some b ∧ b.phase = .waiting := by
  unfold State.benchAsks
  cases s.slot with
  | none => simp
  | some a => by_cases h : a.phase = .waiting <;> simp [h] <;> grind

/-- A grant to the engine (R132). -/
theorem State.PortInv.grantSweep (c : Context) {g : Option Nat} (h : s.PortInv) (hp : s.port.state = .free g) :
    (s.grantSweep c).PortInv := by
  refine ⟨h.slotFits, fun u => ?_, fun x hx => ?_, fun _ => rfl, ?_, by simp [State.grantSweep, State.putOnDrive]⟩
  · have := h.benchHolds u
    rw [hp] at this
    simpa [State.grantSweep, State.putOnDrive] using this
  · cases hx; simp [State.grantSweep, State.putOnDrive, PortState.runningTask]
  · simp [State.grantSweep, State.putOnDrive, PortState.isFree]

theorem State.PortInv.arbitrate (h : s.PortInv) : s.arbitrate.PortInv := by
  unfold State.arbitrate
  split
  · next g hp =>
    split
    · next b hb =>
      obtain ⟨hs, hw⟩ := benchAsks_iff.1 hb
      exact h.grantBench hs hw hp
    · split
      · split
        · exact h.grantSweep _ hp
        · exact h
      · exact h
  all_goals exact h

theorem State.PortInv.finish (h : s.PortInv) : s.finish.PortInv :=
  h.takePresented.arbitrate.congr (by simp [State.finish]) (by simp [State.finish]) (by simp [State.finish])

theorem reset_portInv : State.reset.PortInv :=
  ⟨(fun _ hb => nomatch hb), by simp [State.reset], (fun _ hc => nomatch hc), by simp [State.reset, PortState.runningTask],
    by simp [State.reset, PortState.isFree], by simp [State.reset]⟩

/-- Settles O9: grants, completions, aborts and expiries keep the port in step with the slot and the engine. -/
theorem stepKeepsPort : Obligations.StepKeepsPort := fun _ _ h hs =>
  step_keeps (P := State.PortInv) (fun _ _ h => h.congr rfl rfl rfl) (fun _ _ h => h.congr rfl rfl rfl)
    (fun _ _ h e => h.effect e) (fun _ h => h.finish)
    (fun _ _ _ _ _ h => by rw [exec_powerOn h]; exact reset_portInv.congr rfl rfl rfl) h hs

end Sys2Proof.Machine
end

section
/-! PROOFS. What every command keeps and when it stops: the queue of commands, the time and the straps (R186, R187), the
faults (log 6), POWER_ON, and what rests stays at rest. -/

namespace Sys2Proof.Machine

variable {s t : State}

/-- Settles O1: both halves are the two arms of the step. -/
theorem stepRunsFrontCommand : Obligations.StepRunsFrontCommand :=
  ⟨fun _ _ _ => rfl, fun s h => by unfold step; rw [h]⟩

/-! ### Reset (R187) -/

theorem reset_pinsInv : State.reset.PinsInv := by
  constructor <;> simp [State.reset, PerUnit.get]

theorem reset_spindleInv : State.reset.SpindleInv where
  tied u := by
    unfold State.reset PerUnit.get
    split <;> exact unusedMonitor_tied
  sweepSettled c hc := nomatch hc

/-- Settles O12: each invariant holds of the power-on values. -/
theorem resetMeetsInvariants : Obligations.ResetMeetsInvariants :=
  ⟨reset_pinsInv, reset_queueInv, reset_mapInv, reset_historyInv, reset_portInv, reset_planInv, reset_spindleInv,
    fun _ _ _ _ hr => nomatch hr⟩

/-! ### What rests stays at rest -/

/-- A unit that does not come to be SETTLED gives the engine no task to ask with (R62, R130). -/
theorem sweepReady_mono (he : t.engine = s.engine) (hh : t.holdOn = s.holdOn)
    (hm : ∀ c, s.engine = some c → t.settled (unitOf c.subject) = true → s.settled (unitOf c.subject) = true)
    (h : s.sweepReady = false) : t.sweepReady = false := by
  unfold State.sweepReady at *
  rw [he, hh]
  cases hc : s.engine with
  | none => rfl
  | some c =>
    rw [hc] at h
    simp only at h ⊢
    cases hs : t.settled (unitOf c.subject) with
    | false => exact Bool.and_false _
    | true => rwa [hm c hc hs] at h

/-- What rests stays at rest while the slot, the port and the engine stand and the engine's unit does not settle. -/
theorem resting_mono (h : s.resting = true) (hp : t.presented = s.presented) (hs : t.slot = s.slot)
    (hq : t.port.state = s.port.state) (he : t.engine = s.engine) (hh : t.holdOn = s.holdOn)
    (hm : ∀ c, s.engine = some c → t.settled (unitOf c.subject) = true → s.settled (unitOf c.subject) = true) :
    t.resting = true := by
  obtain ⟨h1, h2, h3⟩ := (resting_iff s).1 h
  refine (resting_iff t).2 ⟨hp.trans h1, by unfold State.benchAsks at *; rwa [hs], ?_⟩
  unfold State.engineQuiet at *
  rw [hq]
  split at h3
  · simpa using sweepReady_mono he hh hm (by simpa using h3)
  all_goals rfl

/-! ### POWER_ON -/

/-- Settles O13: the power-on values, and the interval's end on both sides of its time. -/
theorem powerOnAndItsInterval : Obligations.PowerOnAndItsInterval := by
  constructor
  · intro transparent service s
    have hold : HoldLine.atPowerOn s.holdLine.rawLow =
        { rawLow := s.holdLine.rawLow, asserted := false, timer := if s.holdLine.rawLow then some 20000 else none } := by
      cases s.holdLine.rawLow <;> rfl
    rw [← hold]
    rfl
  · intro t s hr
    show execPowerOnIntervalEnd t s = _
    unfold execPowerOnIntervalEnd
    dsimp only
    split
    · next h =>
      have h' : 200000 ≤ max s.now t := h
      exact next_of_resting _ _ (resting_mono hr rfl rfl rfl rfl rfl fun _ _ => id) (by simp [Nat.not_lt.2 h'])
    · next h =>
      have h' : max s.now t < 200000 := Nat.lt_of_not_le h
      exact next_of_resting _ _ (resting_mono hr rfl rfl rfl rfl rfl fun _ _ => id) (by simp [h', State.advance])

/-! ### Faults (log 6) -/

/-- A command that carries no sector and no completion always answers. -/
def Transfers (c : Instr) : Prop :=
  (∃ t b, c = .driveSectorDelivered t b) ∨ (∃ t b, c = .comparatorSector t b) ∨ (∃ t b, c = .benchWriteSector t b) ∨
    (∃ t, c = .localSectorTaken t) ∨ (∃ t k, c = .benchTaskCompletion t k) ∨ (∃ t k, c = .pieceCompletion t k) ∨
    (∃ t, c = .benchTakesCompletion t) ∨ (∃ t k, c = .layCompletion t k) ∨ (∃ t k, c = .pointCompletion t k) ∨
    (∃ t k, c = .abortingCompletion t k) ∨ (∃ t k, c = .leftOverCompletion t k) ∨ ∃ t k, c = .lateCompletion t k

theorem exec_answers (c : Instr) (s : State) : Transfers c ∨ ∃ s', exec c s = .next s' := by
  cases c
  case driveSectorDelivered | comparatorSector | benchWriteSector | localSectorTaken | benchTaskCompletion |
      pieceCompletion | benchTakesCompletion | layCompletion | pointCompletion | abortingCompletion | leftOverCompletion |
      lateCompletion =>
    left; simp [Transfers]
  case powerOnIntervalEnd t =>
    right; show ∃ s', execPowerOnIntervalEnd t s = _; unfold execPowerOnIntervalEnd; dsimp only; split <;> exact ⟨_, rfl⟩
  case taskExpiry t =>
    right; show ∃ s', execTaskExpiry t s = _; unfold execTaskExpiry; dsimp only
    split <;> [(split <;> exact ⟨_, rfl⟩); exact ⟨_, rfl⟩; exact ⟨_, rfl⟩; exact ⟨_, rfl⟩; exact ⟨_, rfl⟩]
  case secondExpiry t =>
    right; show ∃ s', execSecondExpiry t s = _; unfold execSecondExpiry; dsimp only
    split <;> [(split <;> exact ⟨_, rfl⟩); exact ⟨_, rfl⟩; exact ⟨_, rfl⟩; exact ⟨_, rfl⟩; exact ⟨_, rfl⟩]
  case secondMark t =>
    right; show ∃ s', execSecondMark t s = _; unfold execSecondMark; dsimp only; split <;> exact ⟨_, rfl⟩
  case holdDebounceExpiry t =>
    right; show ∃ s', execHoldDebounceExpiry t s = _; unfold execHoldDebounceExpiry; dsimp only; split <;> exact ⟨_, rfl⟩
  all_goals exact .inr ⟨_, rfl⟩

/-- The transfers answer or stop; they refuse nothing. -/
theorem exec_not_refused (c : Instr) (s : State) (r : Refusal) : exec c s ≠ .refused r := by
  rcases exec_answers c s with h | ⟨s', h⟩
  · rcases h with ⟨_, _, rfl⟩ | ⟨_, _, rfl⟩ | ⟨_, _, rfl⟩ | ⟨_, rfl⟩ | ⟨_, _, rfl⟩ | ⟨_, _, rfl⟩ | ⟨_, rfl⟩ | ⟨_, _, rfl⟩ |
      ⟨_, _, rfl⟩ | ⟨_, _, rfl⟩ | ⟨_, _, rfl⟩ | ⟨_, _, rfl⟩
    all_goals
      simp only [exec, execDriveSectorDelivered, execComparatorSector, execBenchWriteSector, execLocalSectorTaken,
        execBenchTaskCompletion, execPieceCompletion, execBenchTakesCompletion, execLayCompletion, execPointCompletion,
        execAbortingCompletion, execLeftOverCompletion, execLateCompletion]
      repeat' split
      all_goals exact nofun
  · rw [h]; exact nofun

/-- What stops with no answering task: every sector and completion of the drive side, and a bench's sector. -/
def State.NoDriveTransfer (s : State) (t : Nat) (b : List Byte) (k : Completion) (a : Bool) : Prop :=
  exec (.driveSectorDelivered t b) s = .fault .noOpenTask ∧ exec (.comparatorSector t b) s = .fault .noOpenTask ∧
    exec (.benchTaskCompletion t k) s = .fault .noOpenTask ∧ exec (.pieceCompletion t ⟨k, a⟩) s = .fault .noOpenTask ∧
    exec (.layCompletion t k) s = .fault .noOpenTask ∧ exec (.pointCompletion t k) s = .fault .noOpenTask ∧
    exec (.abortingCompletion t k) s = .fault .noOpenTask ∧ exec (.leftOverCompletion t k) s = .fault .noOpenTask ∧
    exec (.lateCompletion t k) s = .fault .noOpenTask ∧ exec (.benchWriteSector t b) s = .fault .noBenchTransfer

/-- With no bench task answered, and the port FREE or its task unanswered, nothing transfers on the drive side (R24, R25). -/
theorem noDriveTransfer_of_unanswered (t : Nat) (b : List Byte) (k : Completion) (a : Bool) (ht : s.answeredTask = none)
    (hs : s.driveAnswers = false ∨ s.port.state.isFree = true) : s.NoDriveTransfer t b k a := by
  have ht' : (s.advance t).answeredTask = none := ht
  have hrun : (s.driveAnswers && s.port.state.runningTask) = false := by
    rcases hs with h | h
    · simp [h]
    · revert h; cases s.port.state <;> simp [PortState.isFree, PortState.runningTask]
  have hsweep : (s.driveAnswers && s.port.state.runningSweep) = false := by
    rcases hs with h | h
    · simp [h]
    · revert h; cases s.port.state <;> simp [PortState.isFree, PortState.runningSweep]
  have hleft : (s.driveAnswers && s.port.state.leftOverTask) = false := by
    rcases hs with h | h
    · simp [h]
    · revert h; cases s.port.state <;> simp [PortState.isFree, PortState.leftOverTask]
  have hstray : (s.driveAnswers && (s.advance t).strayPointTask) = false := by
    rcases hs with h | h
    · simp [h]
    · revert h; unfold State.strayPointTask; rw [State.advance_port]; cases s.port.state <;> simp [PortState.isFree]
  refine ⟨?_, ?_, ?_, ?_, ?_, ?_, ?_, ?_, ?_, ?_⟩
  · simp only [exec, execDriveSectorDelivered, ht']
  · simp [exec, execComparatorSector, hrun, hstray]
  · simp only [exec, execBenchTaskCompletion, ht']
  · simp only [exec, execPieceCompletion, ht']
  · simp [exec, execLayCompletion, hsweep]
  · simp [exec, execPointCompletion, hsweep]
  · simp only [exec, execAbortingCompletion, State.advance_port, State.advance_driveAnswers]
    split
    · next hp =>
      have hn : s.driveAnswers = false := hs.resolve_right (by simp [hp, PortState.isFree])
      simp [hn]
    all_goals rfl
  · simp [exec, execLeftOverCompletion, hleft]
  · simp only [exec, execLateCompletion, State.advance_port, State.advance_driveAnswers]
    split
    · next hp =>
      have hn : s.driveAnswers = false := hs.resolve_right (by simp [hp, PortState.isFree])
      simp [hn]
    all_goals rfl
  · simp only [exec, execBenchWriteSector, ht']

theorem answeredTask_of_empty (h : s.slot = none) : s.answeredTask = none := by
  simp [State.answeredTask, State.issuedTask, h]

/-- Settles O3. -/
theorem onlyTransfersStop : Obligations.OnlyTransfersStop := by
  refine ⟨exec_not_refused, fun c s e h => ?_, fun t b k a s hs hp => ⟨?_, ?_, ?_⟩, fun t b k a s h => ?_⟩
  · rcases exec_answers c s with hc | ⟨s', hn⟩
    · exact hc
    · rw [hn] at h; cases h
  · exact noDriveTransfer_of_unanswered t b k a (answeredTask_of_empty hs) (.inr hp)
  · simp only [exec, execLocalSectorTaken, State.advance_slot, hs]
  · simp only [exec, execBenchTakesCompletion, State.advance_slot, hs]
  · have hn : s.driveAnswers = false := by
      unfold State.driveAnswers
      split
      · next d hd => rcases h d hd with h | h <;> simp [h]
      · rfl
    exact noDriveTransfer_of_unanswered t b k a (by simp [State.answeredTask, hn]) (.inl hn)

end Sys2Proof.Machine
end

section
/-! PROOFS. What no effect of a command touches: the queue of commands, the time it has taken and the straps (R186, R187),
by the frames of the operations. -/

namespace Sys2Proof.Machine

variable {s t : State}

/-- Two states with the same waiting commands, the same present and the same straps. -/
def SameClock (s t : State) : Prop := t.pending = s.pending ∧ t.now = s.now ∧ t.straps = s.straps

theorem SameClock.refl (s : State) : SameClock s s := ⟨rfl, rfl, rfl⟩

theorem SameClock.trans {r : State} (h : SameClock s t) (k : SameClock t r) : SameClock s r := by
  obtain ⟨h1, h2, h3⟩ := h
  obtain ⟨k1, k2, k3⟩ := k
  exact ⟨k1.trans h1, k2.trans h2, k3.trans h3⟩

theorem SameButIssue.clock (h : SameButIssue s t) : SameClock s t := by
  obtain ⟨_, _, _, _, _, _, _, _, _, _, _, _, _, rfl⟩ := h; exact ⟨rfl, rfl, rfl⟩

theorem SameButEnding.clock (h : SameButEnding s t) : SameClock s t := h.toIssue.clock

theorem SameButQueue.clock (h : SameButQueue s t) : SameClock s t := h.toLook.toEnding.clock

theorem SameButSpindle.clock (h : SameButSpindle s t) : SameClock s t := by
  obtain ⟨_, _, _, _, _, _, _, _, _, _, _, rfl⟩ := h; exact ⟨rfl, rfl, rfl⟩

theorem look_clock (s : State) (b : Bool) : SameClock s (s.look b) := (look_frame s b).toEnding.clock

theorem endSweep_clock (s : State) (g : Ending) : SameClock s (s.endSweep g) := (endSweep_frame s g).clock

theorem clearEntries_clock (s : State) (gone : EntryNo → Bool) : SameClock s (s.clearEntries gone) := by
  unfold State.clearEntries
  dsimp only
  refine SameClock.trans ?_ (reoffer_frame _).clock
  generalize hx : (s.mapEntries _).setQueue _ = x
  have hc : SameClock s x := by rw [← hx]; exact ((mapEntries_frame s _).trans (setQueue_frame _ _)).clock
  split
  · split
    · exact hc.trans (endSweepNoLook_frame _ _).clock
    · exact hc
  · exact hc

theorem applyScope_clock (s : State) : SameClock s s.applyScope := by
  unfold State.applyScope
  dsimp only
  refine SameClock.trans ?_ (reoffer_frame _).clock
  generalize hx : (s.mapEntries _).setQueue _ = x
  have hc : SameClock s x := by rw [← hx]; exact ((mapEntries_frame s _).trans (setQueue_frame _ _)).clock
  split
  · split
    · exact hc.trans (endSweepNoLook_frame _ _).clock
    · exact hc
  · exact hc

theorem applyClearMap_clock (s : State) : SameClock s s.applyClearMap := by
  unfold State.applyClearMap
  split
  · exact clearEntries_clock s _
  · exact .refl s

theorem queueOne_frame (s : State) (i : EntryNo) : SameButQueue s (s.queueOne i) := by
  rw [queueOne_eq]
  exact (askIf_step _ _ (fun _ _ _ h => (Bool.and_eq_true_iff.1 h).1) _ s i).1

theorem applyActions_clock (s : State) : SameClock s s.applyActions := by
  unfold State.applyActions
  dsimp only
  split
  · have hc := (foldl_keeps SameButQueue.refl SameButQueue.trans _ queueOne_frame allEntries s).clock
    generalize allEntries.foldl State.queueOne s = x at hc ⊢
    exact hc
  · exact ⟨rfl, rfl, rfl⟩

theorem takePlan_clock (s : State) (p : Plan) : SameClock s (s.takePlan p) := by
  unfold State.takePlan
  dsimp only
  have hp : SameClock s { s with plan := p } := ⟨rfl, rfl, rfl⟩
  have hc := hp.trans <| (clearEntries_clock _ _).trans <| (applyScope_clock _).trans <| (applyClearMap_clock _).trans <|
    applyActions_clock (({ s with plan := p } : State).redefineZones s.plan).applyScope.applyClearMap
  generalize (({ s with plan := p } : State).redefineZones s.plan).applyScope.applyClearMap = y at hc ⊢
  generalize y.applyActions = x at hc ⊢
  have hw : SameClock x (x.setSwmark (x.swmarkForMode s.plan.swmarkMode)) := ⟨rfl, rfl, rfl⟩
  exact (hc.trans hw).trans (look_clock _ _)

theorem judgeCopy_clock (s : State) : SameClock s s.judgeCopy := by
  unfold State.judgeCopy
  dsimp only
  split
  · split
    · exact SameClock.trans (t := { s with copy := {}, planEvent := (judge s.copy.bytes).event }) ⟨rfl, rfl, rfl⟩
        (by rename_i hj; rw [hj]; exact takePlan_clock _ _)
    · exact ⟨rfl, rfl, rfl⟩
    · exact ⟨rfl, rfl, rfl⟩
  · exact ⟨rfl, rfl, rfl⟩

theorem watchCompletion_clock (s : State) (b : BenchTask) (k : Completion) : SameClock s (s.watchCompletion b k) := by
  unfold State.watchCompletion State.watchGeometry
  split
  · exact (driftEvent_frame _ _ _ _).toEnding.clock
  · exact judgeCopy_clock s
  all_goals dsimp only; split <;> exact ⟨rfl, rfl, rfl⟩

theorem wholeDone_clock (s : State) (b : BenchTask) (k : Completion) : SameClock s (s.wholeDone b k) :=
  (watchCompletion_clock s b k).trans ⟨rfl, rfl, rfl⟩

theorem pieceDrift_frame (s : State) (op : Op) (p : Piece) (k : Completion) : SameButLook s (s.pieceDrift op p k) := by
  unfold State.pieceDrift
  split
  · exact driftEvent_frame _ _ _ _
  · exact .refl s

theorem pieceDone_clock (s : State) (b : BenchTask) (q : Sequencer) (p : Piece) (k : Completion) (behind : Bool) :
    SameClock s (s.pieceDone b q p k behind) := by
  unfold State.pieceDone
  dsimp only
  refine SameClock.trans (pieceDrift_frame s b.task.op p k).toEnding.clock ?_
  split
  · exact ⟨rfl, rfl, rfl⟩
  · split
    · split
      · exact ⟨rfl, rfl, rfl⟩
      · obtain ⟨_, _, h⟩ := issuePiece_frame (s.pieceDrift b.task.op p k)
          { b with disp := .split { q with corrected := q.corrected || k.corrected } }
          { q with corrected := q.corrected || k.corrected }
        rw [h]; exact ⟨rfl, rfl, rfl⟩
    · exact ⟨rfl, rfl, rfl⟩

theorem abortIssued_clock (s : State) (b : BenchTask) (moving : Bool) : SameClock s (s.abortIssued b moving) := by
  unfold State.abortIssued
  split
  · exact ⟨rfl, rfl, rfl⟩
  · dsimp only
    split
    · split
      · exact pieceDone_clock _ _ _ _ _ _
      · exact ⟨rfl, rfl, rfl⟩
    all_goals exact wholeDone_clock _ _ _

theorem localAborts_clock (s : State) (b : BenchTask) (l : List Nat) (moving : Bool) :
    SameClock s (s.localAborts b l moving) := by
  cases moving <;> exact ⟨rfl, rfl, rfl⟩

theorem benchAborts_clock (s : State) (moving early : Bool) : SameClock s (s.benchAborts moving early) := by
  unfold State.benchAborts
  split
  · exact .refl s
  · split
    · exact ⟨rfl, rfl, rfl⟩
    · split
      · exact localAborts_clock _ _ _ _
      all_goals exact .refl s
    · exact abortIssued_clock _ _ _
    · unfold State.completingAborts
      split
      · split
        · exact localAborts_clock _ _ _ _
        · exact .refl s
      all_goals exact .refl s
    · exact .refl s

theorem sweepTaskDone_clock (s : State) : SameClock s s.sweepTaskDone := ⟨rfl, rfl, rfl⟩

theorem abortingDone_clock (s : State) (w : Owner) : SameClock s (s.abortingDone w) := by
  cases w with
  | running => exact (sweepTaskDone_clock s).trans (endSweep_clock _ _)
  | leftOver => exact ⟨rfl, rfl, rfl⟩

theorem effect_clock {x : State} (e : Effect s x) : SameClock s x := by
  cases e
  case driveChanges u d =>
    unfold State.driveChanges
    dsimp only
    split <;> exact ⟨rfl, rfl, rfl⟩
  case wholeDone => exact wholeDone_clock _ _ _
  case pieceDone => exact pieceDone_clock _ _ _ _ _ _
  case benchAborts => exact benchAborts_clock _ _ _
  case cableResets =>
    unfold State.cableResets
    dsimp only
    split
    · exact SameClock.trans (t := s.resetBlocks) ⟨rfl, rfl, rfl⟩ (endSweep_clock _ _)
    · split
      · exact SameClock.trans (t := s.resetBlocks) ⟨rfl, rfl, rfl⟩ (look_clock _ _)
      · exact ⟨rfl, rfl, rfl⟩
  case layDone c _ st _ _ _ _ _ =>
    cases st with
    | good => exact ⟨rfl, rfl, rfl⟩
    | error => exact (sweepTaskDone_clock s).trans (endSweep_clock _ _)
  case pointDone c f i st _ _ _ _ _ =>
    unfold State.pointDone
    dsimp only
    split
    · exact ⟨rfl, rfl, rfl⟩
    · exact SameClock.trans (t := s.sweepTaskDone.setEngine _) ⟨rfl, rfl, rfl⟩ (endSweep_clock _ _)
  case abortingDone => exact abortingDone_clock _ _
  case lateDone => exact SameClock.trans (t := s.freePort none) ⟨rfl, rfl, rfl⟩ (look_clock _ _)
  case taskExpires =>
    unfold State.expireTask
    split
    · exact ⟨rfl, rfl, rfl⟩
    · exact abortingDone_clock _ _
  case secondExpires u w e _ _ =>
    cases w with
    | running => exact SameClock.trans ⟨rfl, rfl, rfl⟩ (endSweep_clock _ _)
    | leftOver => exact ⟨rfl, rfl, rfl⟩
  case indexPulse u =>
    exact SameClock.trans (t := { s with indexOut := some (u, s.now) }) ⟨rfl, rfl, rfl⟩ (pulse_frame _ _).clock
  case stopTimer => exact (stopTimer_frame _ _).clock
  case second =>
    unfold State.markSecond
    dsimp only
    have ha : SameClock s { s with seconds := s.seconds + 1 } := ⟨rfl, rfl, rfl⟩
    have hc := ha.trans (mapEntries_frame _ fun _ e => e.older).clock
    generalize State.mapEntries _ _ = x at hc ⊢
    exact (hc.trans (foldl_keeps SameButQueue.refl SameButQueue.trans _ testAge_frame _ x).clock).trans (look_clock _ _)
  case holdSettles =>
    unfold State.holdSettles
    dsimp only
    split
    · exact SameClock.trans (t := { s with holdLine := s.holdLine.settle }) ⟨rfl, rfl, rfl⟩ (look_clock _ _)
    · exact ⟨rfl, rfl, rfl⟩
  all_goals exact ⟨rfl, rfl, rfl⟩

theorem finish_clock (s : State) : SameClock s s.finish := by
  obtain ⟨_, _, _, _, _, h⟩ := takePresented_frame s
  have hp : SameClock s s.takePresented := by rw [h]; exact ⟨rfl, rfl, rfl⟩
  exact hp.trans ((arbitrate_frame _).clock.trans ⟨by simp [State.finish], by simp [State.finish], by simp [State.finish]⟩)

/-- Settles O2. -/
theorem commandsKeepQueueTimeAndStraps : Obligations.CommandsKeepQueueTimeAndStraps := by
  intro c s s' h
  rcases exec_effect h with ⟨a, b, rfl⟩ | ⟨t, x, ht, he, rfl⟩
  · rw [exec_powerOn h]
    exact ⟨rfl, (fun _ ht => nomatch ht), fun _ _ hc => by cases hc; exact ⟨rfl, rfl⟩⟩
  · obtain ⟨h1, h2, h3⟩ := (effect_clock he).trans (finish_clock x)
    refine ⟨h1, fun u hu => ?_, fun _ _ hc => by subst hc; cases ht⟩
    obtain rfl : t = u := Option.some.inj (ht.symm.trans hu)
    exact ⟨h2, h3⟩

end Sys2Proof.Machine
end

section
/-! PROOFS. Nothing ready is left undone (R26, R49, R130): the grant decision leaves no grant to make, the handshake leaves
no record it could take, and no event leaves a look owed. -/

namespace Sys2Proof.Machine

variable {s t : State}

/-! ### The grant decision leaves none to make (R130) -/

theorem orphan_bench (p : Port) (c : Context) {u : UnitNo} (h : p.state = .bench u) : (p.orphan c).state = .bench u :=
  ((orphan_facts p c).2.1 u).2 h

/-- No event of the map, of plans or of endings takes the port from a bench task (R97). -/
theorem benchPortKept (u : UnitNo) : EventKept fun s => s.port.state = .bench u := by
  refine EventKept.ofEndings (fun h _ _ hp => by rw [hp]; exact h) (fun f h => ?_) (fun {s} b h => ?_) (fun {s} g h => ?_)
    fun _ h => h
  · obtain ⟨_, _, rfl⟩ := f; exact h
  · rw [(look_slot_port s b).2]; exact h
  · cases he : s.engine with
    | none => rw [State.endSweepNoLook, he]; exact h
    | some c => rw [endSweepNoLook_port s g he]; exact orphan_bench _ _ h

theorem issueEffects_bench (k : Task) {u : UnitNo} (h : s.port.state = .bench u) : (s.issueEffects k).port.state = .bench u :=
  (benchPortKept u).issueEffectsOf (fun v h => (benchPortKept u).spinDownOf (fun _ h => h) v h) k h

/-- A grant to the bench slot leaves the port with its task (R131). -/
theorem grantBench_bench (s : State) (b : BenchTask) (g : Option Nat) :
    (s.grantBench b g).port.state = .bench b.task.fields.unit := by
  unfold State.grantBench State.issueBench
  dsimp only
  split
  · exact issueEffects_bench _ rfl
  · exact issueEffects_bench _ rfl
  · rfl
  · unfold State.issuePiece
    split <;> rfl
  · exact issueEffects_bench _ rfl

theorem grantPending_of_held (h : s.port.state.isFree = false) : s.grantPending = false := by
  unfold State.grantPending
  revert h; cases s.port.state <;> simp [PortState.isFree]

theorem arbitrate_grantPending (s : State) : s.arbitrate.grantPending = false := by
  unfold State.arbitrate
  split
  · next g hp =>
    split
    · next b _ => exact grantPending_of_held (by rw [grantBench_bench]; rfl)
    · next hb =>
      split
      · split
        · exact grantPending_of_held rfl
        · next hn => simpa [State.grantPending, hp, hb, Option.isSome_iff_ne_none] using hn
      · next he => simp [State.grantPending, hp, hb, State.sweepReady, he]
  all_goals next hp => exact grantPending_of_held (by rw [hp]; rfl)

theorem drivePins_grantPending (s : State) : s.drivePins.grantPending = s.grantPending := rfl

/-! ### The handshake leaves no record it could take (R26) -/

/-- A slot that is occupied stays so through the grant decision. -/
theorem arbitrate_occupied (h : s.slot.isSome = true) : s.arbitrate.slot.isSome = true := by
  have hk : EventKept fun s => s.slot.isSome = true := by
    refine EventKept.ofEndings (fun h _ hs _ => by rw [hs]; exact h) (fun f h => ?_) (fun {s} b h => ?_) (fun {s} g h => ?_)
      fun _ h => h
    · obtain ⟨_, _, rfl⟩ := f; exact h
    · rw [(look_slot_port s b).1]; exact h
    · obtain ⟨_, _, _, _, _, _, _, _, _, _, hf⟩ := endSweepNoLook_frame s g
      rw [hf]; exact h
  have heffects {x : State} (k : Task) (hx : x.slot.isSome = true) : (x.issueEffects k).slot.isSome = true :=
    hk.issueEffectsOf (fun v h => hk.spinDownOf (fun _ h => h) v h) k hx
  unfold State.arbitrate
  split
  · split
    · unfold State.grantBench State.issueBench
      dsimp only
      split
      · exact heffects _ rfl
      · exact heffects _ rfl
      · rfl
      · unfold State.issuePiece
        split <;> rfl
      · exact heffects _ rfl
    · split
      · split
        · exact h
        · exact h
      · exact h
  all_goals exact h

theorem takeTask_occupied (s : State) (k : Task) : (s.takeTask k).slot.isSome = true := by
  unfold State.takeTask
  dsimp only
  split <;> rfl

theorem arbitrate_notReady (h : s.benchReady = false) : s.arbitrate.benchReady = false := by
  unfold State.benchReady at h ⊢
  have hf : s.arbitrate.interval = s.interval ∧ s.arbitrate.cableReset = s.cableReset := by
    obtain ⟨_, _, _, _, _, _, _, _, _, _, _, _, _, hf⟩ := arbitrate_frame s
    rw [hf]; exact ⟨rfl, rfl⟩
  rw [hf.1, hf.2]
  cases hs : s.slot with
  | none => rw [hs] at h; revert h; cases s.interval <;> cases s.cableReset <;> simp
  | some b =>
    obtain ⟨b', hb'⟩ := Option.isSome_iff_exists.1 (arbitrate_occupied (s := s) (by rw [hs]; rfl))
    simp [hb']

theorem arbitrate_presented (s : State) : s.arbitrate.presented = s.presented := by
  obtain ⟨_, _, _, _, _, _, _, _, _, _, _, _, _, hf⟩ := arbitrate_frame s
  rw [hf]

theorem takePresented_handshake (s : State) : s.takePresented.presented = [] ∨ s.takePresented.benchReady = false := by
  cases hr : s.benchReady with
  | false => exact .inr (by rwa [takePresented_of_notReady s hr])
  | true =>
    cases hp : s.presented with
    | nil => exact .inl (by rwa [takePresented_of_none s hp])
    | cons k rest =>
      obtain ⟨b, hb⟩ := Option.isSome_iff_exists.1 (takeTask_occupied { s with presented := rest } k)
      exact .inr (by rw [takePresented_of_ready s hp hr]; simp [State.benchReady, hb])

theorem finish_handshake (s : State) : s.finish.presented = [] ∨ s.finish.benchReady = false :=
  (takePresented_handshake s).imp (fun h => by simpa [State.finish, arbitrate_presented] using h) arbitrate_notReady

/-! ### No event leaves a look owed (R49) -/

/-- What the look reads, the port aside. -/
def State.lookView (s : State) := (s.queue, s.engine, s.holdOn, s.monitors, s.plan, s.straps)

/-- Where the look reads the same and no unit is newly free of a WEDGED port, none comes to be owed. -/
theorem State.LookInv.ofView (h : s.LookInv) (e : t.lookView = s.lookView)
    (hw : ∀ u, t.wedgedOn u = false → s.wedgedOn u = false) : t.LookInv := by
  simp only [State.lookView, Prod.mk.injEq] at e
  obtain ⟨hq, he, hh, hm, hp, hs⟩ := e
  refine lookInv_mono h (by unfold State.active; rw [hs]) (by rw [hh]; exact id) (by rw [he]; exact id) hq (fun u hu => ?_)
    hw hp
  unfold State.settled at *
  rwa [hm] at hu

theorem State.LookInv.samePort (h : s.LookInv) (e : t.lookView = s.lookView) (hp : t.port.state = s.port.state) :
    t.LookInv :=
  h.ofView e fun u hu => by unfold State.wedgedOn at *; rwa [hp] at hu

/-- A port that is not WEDGED frees no unit of it. -/
theorem State.LookInv.notWedged (h : s.LookInv) (e : t.lookView = s.lookView) (hp : ∀ u l, s.port.state ≠ .wedged u l) :
    t.LookInv :=
  h.ofView e fun u _ => wedgedOn_false s hp u

theorem endSweepOn_lookInv (u : UnitNo) (g : Ending) (h : s.LookInv) : (s.endSweepOn u g).LookInv := by
  unfold State.endSweepOn
  split
  · exact h
  · split
    · exact endSweep_lookInv g h
    · exact h

theorem patternLoss_lookInv (i : EntryNo) (h : s.LookInv) : (s.patternLoss i).LookInv := by
  have hx : (s.setEntry i { s.entry i with laid := false }).LookInv := h.samePort rfl rfl
  unfold State.patternLoss
  dsimp only
  split
  · exact endSweep_lookInv _ hx
  · exact hx

/-- A monitor that does not come to be SETTLED gives no record a place before the engine. -/
theorem State.LookInv.setMonitor {u : UnitNo} {m : Monitor} (h : s.LookInv)
    (hm : m.state = .settled → (s.monitors.get u).state = .settled) : (s.setMonitors (s.monitors.set u m)).LookInv := by
  refine lookInv_mono h rfl id id rfl (fun v hv => ?_) (fun _ => id) rfl
  unfold State.settled at *
  rw [State.setMonitors_monitors, PerUnit.get_set] at hv
  split at hv
  · next hu => subst hu; simpa using hm (by simpa using hv)
  · exact hv

theorem spinDownIssued_lookInv (u : UnitNo) (h : s.LookInv) : (s.spinDownIssued u).LookInv := by
  refine endSweepOn_lookInv _ _ (h.setMonitor fun hm => ?_)
  unfold Monitor.spinDown at hm
  split at hm <;> simp_all

theorem stopTimer_lookInv (u : UnitNo) (h : s.LookInv) : (s.stopTimer u).LookInv := by
  unfold State.stopTimer
  dsimp only
  split
  · exact endSweepOn_lookInv _ _ (h.setMonitor nofun)
  · exact h

/-- A pulse makes a unit SETTLED only with the result that says so (R147, R148). -/
theorem pulse_settled {m : Monitor} {now n : Nat} (hr : (m.pulse now n).2 ≠ .settles)
    (hs : (m.pulse now n).1.state = .settled) : m.state = .settled := by
  unfold Monitor.pulse at hr hs
  dsimp only at hr hs
  cases hm : m.state with
  | settled => rfl
  | unknown => simp [hm] at hs
  | stopped => simp [hm] at hs
  | spinningUp => simp only [hm] at hr hs; split at hs <;> simp_all [Monitor.worked]
  | stopping => simp only [hm] at hr hs; split at hs <;> simp_all [Monitor.worked]

theorem pulse_lookInv (u : UnitNo) (h : s.LookInv) : (s.pulse u).LookInv := by
  unfold State.pulse
  dsimp only
  split
  · split
    · next hr => exact h.setMonitor (pulse_settled (by rw [hr]; simp))
    · next hr => exact endSweepOn_lookInv _ _ (h.setMonitor (pulse_settled (by rw [hr]; simp)))
    · split <;> exact look_lookInv _ _
  · exact h

theorem issueEffects_lookInv (k : Task) (h : s.LookInv) : (s.issueEffects k).LookInv := by
  unfold State.issueEffects
  split
  · split
    · exact foldl_kept (P := State.LookInv) (fun _ i => patternLoss_lookInv i) _ h
    · exact h
  · exact spinDownIssued_lookInv _ h
  all_goals exact h

theorem driftEvent_lookInv (i : EntryNo) (op : Op) (k : Completion) (h : s.LookInv) : (s.driftEvent i op k).LookInv := by
  unfold State.driftEvent
  split
  · dsimp only
    split
    · exact look_lookInv _ _
    · exact h.samePort rfl rfl
  · exact h

theorem takePlan_lookInv (s : State) (p : Plan) : (s.takePlan p).LookInv := by
  unfold State.takePlan
  exact look_lookInv _ _

theorem judgeCopy_lookInv (h : s.LookInv) : s.judgeCopy.LookInv := by
  unfold State.judgeCopy
  dsimp only
  split
  · split
    · exact takePlan_lookInv _ _
    · exact h.samePort rfl rfl
    · exact h.samePort rfl rfl
  · exact h.samePort rfl rfl

theorem watchCompletion_lookInv (b : BenchTask) (k : Completion) (h : s.LookInv) : (s.watchCompletion b k).LookInv := by
  unfold State.watchCompletion State.watchGeometry
  split
  · exact driftEvent_lookInv _ _ _ h
  · exact judgeCopy_lookInv h
  all_goals dsimp only; split <;> exact h.samePort rfl rfl

/-- An ISSUED bench task keeps the port from being WEDGED. -/
theorem State.PortInv.notWedged {a : BenchTask} (h : s.PortInv) (hs : s.slot = some a) (ha : a.phase = .issued) (u : UnitNo)
    (l : Option LaySupply) : s.port.state ≠ .wedged u l := by
  rw [(h.issued_facts hs ha).1]; exact nofun

theorem wholeDone_lookInv {a b : BenchTask} (k : Completion) (hi : s.PortInv) (hs : s.slot = some a) (ha : a.phase = .issued)
    (h : s.LookInv) : (s.wholeDone b k).LookInv := by
  obtain ⟨hw, hws⟩ := hi.watchCompletion (b := b) k hs
  exact (watchCompletion_lookInv b k h).notWedged rfl (hw.notWedged hws ha)

theorem pieceDone_lookInv {a b : BenchTask} (q : Sequencer) (p : Piece) (k : Completion) (behind : Bool) (hi : s.PortInv)
    (hs : s.slot = some a) (ha : a.phase = .issued) (h : s.LookInv) : (s.pieceDone b q p k behind).LookInv := by
  obtain ⟨hw, hws⟩ := hi.pieceDrift b.task.op p k hs
  have hn := hw.notWedged hws ha
  have hl : (s.pieceDrift b.task.op p k).LookInv := by
    unfold State.pieceDrift
    split
    · exact driftEvent_lookInv _ _ _ h
    · exact h
  unfold State.pieceDone
  dsimp only
  split
  · exact hl.notWedged rfl hn
  · split
    · split
      · exact hl.notWedged rfl hn
      · obtain ⟨_, _, e⟩ := issuePiece_frame (s.pieceDrift b.task.op p k)
          { b with disp := .split { q with corrected := q.corrected || k.corrected } }
          { q with corrected := q.corrected || k.corrected }
        rw [e]
        exact hl.notWedged rfl hn
    · exact hl.notWedged rfl hn

theorem benchAborts_lookInv (moving early : Bool) (hi : s.PortInv) (h : s.LookInv) :
    (s.benchAborts moving early).LookInv := by
  have hlocal (b : BenchTask) (l : List Nat) (m : Bool) : (s.localAborts b l m).LookInv := by
    cases m <;> exact h.samePort rfl rfl
  unfold State.benchAborts
  split
  · exact h
  · next a hs =>
    split
    · exact h.samePort rfl rfl
    · split
      · exact hlocal _ _ _
      all_goals exact h
    · next hp =>
      unfold State.abortIssued
      split
      · exact h.samePort rfl rfl
      · dsimp only
        split
        · split
          · exact pieceDone_lookInv _ _ _ _ hi hs hp h
          · exact h.samePort rfl rfl
        all_goals exact wholeDone_lookInv _ hi hs hp h
    · unfold State.completingAborts
      split
      · split
        · exact hlocal _ _ _
        · exact h
      all_goals exact h
    · exact h

/-- The end of a sweep's task that held the port. -/
theorem sweepTaskDone_lookInv (hp : ∀ u l, s.port.state ≠ .wedged u l) (h : s.LookInv) : s.sweepTaskDone.LookInv := by
  cases he : s.engine with
  | none => exact h.notWedged (by simp [State.lookView, State.sweepTaskDone, State.freePort, he, State.holdOn]) hp
  | some c => exact lookInv_of_running (sweepTaskDone_engine he)

theorem abortingDone_lookInv (w : Owner) (hp : ∀ u l, s.port.state ≠ .wedged u l) (h : s.LookInv) :
    (s.abortingDone w).LookInv := by
  cases w with
  | running => exact endSweep_lookInv _ (sweepTaskDone_lookInv hp h)
  | leftOver => exact h.notWedged rfl hp

theorem cableResets_lookInv (h : s.LookInv) : s.cableResets.LookInv := by
  unfold State.cableResets
  dsimp only
  split
  · next c hc => exact endSweep_lookInv _ (lookInv_of_running hc)
  · split
    · exact look_lookInv _ _
    · next hw =>
      simp only [Bool.or_eq_true, not_or, Bool.not_eq_true] at hw
      refine h.ofView rfl fun u _ => ?_
      fin_cases u
      · exact hw.1
      · exact hw.2

theorem wedge_lookInv {u : UnitNo} {w : Owner} {e : Nat} (hp : s.port.state = .aborting u w e) (h : s.LookInv) :
    (s.wedge u w).LookInv := by
  unfold State.wedge
  have hn : ∀ u l, s.port.state ≠ .wedged u l := by rw [hp]; exact nofun
  have hw : (s.setPort { s.port with state := .wedged u w.lay }).LookInv := h.notWedged rfl hn
  cases w with
  | leftOver => exact hw
  | running =>
    refine endSweep_lookInv _ ?_
    cases he : s.engine with
    | none => exact hw.samePort (by simp [State.lookView, he, State.holdOn]) rfl
    | some c => exact lookInv_of_running (c := { c with flight := none }) (by simp [he])

theorem holdSettles_lookInv (h : s.LookInv) : s.holdSettles.LookInv := by
  unfold State.holdSettles
  dsimp only
  split
  · exact look_lookInv _ _
  · next hn =>
    refine lookInv_mono h rfl (fun hh => ?_) id rfl (fun _ => id) (fun _ => id) rfl
    by_contra hs
    exact hn (by simp [hh, eq_true_of_ne_false hs])

theorem effect_lookInv {x : State} (hi : s.PortInv) (e : Effect s x) (h : s.LookInv) : x.LookInv := by
  cases e
  case driveChanges u d =>
    unfold State.driveChanges
    dsimp only
    split
    · exact h.samePort rfl rfl
    · exact h.samePort rfl (openFor_facts s.port u).1
  case wholeDone hb _ =>
    obtain ⟨hs, hp⟩ := issuedTask_iff.1 hb
    exact wholeDone_lookInv _ hi hs hp h
  case pieceDone hb _ _ =>
    obtain ⟨hs, hp⟩ := issuedTask_iff.1 hb
    exact pieceDone_lookInv _ _ _ _ hi hs hp h
  case benchAborts => exact benchAborts_lookInv _ _ hi h
  case cableResets => exact cableResets_lookInv h
  case comparatorSector => exact lookInv_of_running rfl
  case layDone c f st _ hr hc _ _ =>
    cases st with
    | good => exact lookInv_of_running rfl
    | error => exact endSweep_lookInv _ (lookInv_of_running (sweepTaskDone_engine hc))
  case pointDone =>
    unfold State.pointDone
    dsimp only
    split
    · exact lookInv_of_running rfl
    · exact endSweep_lookInv _ (lookInv_of_running rfl)
  case abortingDone hp => exact abortingDone_lookInv _ (by rw [hp]; exact nofun) h
  case leftOverDone hl => exact h.notWedged rfl fun u l hw => by rw [hw] at hl; cases hl
  case lateDone => exact look_lookInv _ _
  case taskExpires hp _ =>
    unfold State.expireTask
    split
    · exact h.notWedged rfl (by rw [hp]; exact nofun)
    · exact abortingDone_lookInv _ (by rw [hp]; exact nofun) h
  case secondExpires hp _ => exact wedge_lookInv hp h
  case graceEnds =>
    refine h.ofView rfl fun u hu => ?_
    unfold State.wedgedOn Port.endGrace at *
    cases hp : s.port.state <;> simp_all
  case indexPulse u => exact pulse_lookInv u (h.samePort (t := { s with indexOut := some (u, s.now) }) rfl rfl)
  case stopTimer => exact stopTimer_lookInv _ h
  case second =>
    unfold State.markSecond
    exact look_lookInv _ _
  case holdSettles => exact holdSettles_lookInv h
  case holdChanges low =>
    refine h.samePort ?_ rfl
    have : (s.holdLine.change low s.now).asserted = s.holdLine.asserted := by
      unfold HoldLine.change; split <;> rfl
    simp [State.lookView, State.holdOn, this]
  all_goals exact h.samePort rfl rfl

theorem arbitrate_lookInv (h : s.LookInv) : s.arbitrate.LookInv := by
  unfold State.arbitrate
  split
  · next g hp =>
    have hn : ∀ u l, s.port.state ≠ .wedged u l := by rw [hp]; exact nofun
    split
    · unfold State.grantBench State.issueBench
      dsimp only
      split
      · exact issueEffects_lookInv _ (h.notWedged rfl hn)
      · exact issueEffects_lookInv _ (h.notWedged rfl hn)
      · exact h.notWedged rfl hn
      · unfold State.issuePiece
        split <;> exact h.notWedged rfl hn
      · exact issueEffects_lookInv _ (h.notWedged rfl hn)
    · split
      · split
        · exact lookInv_of_running rfl
        · exact h
      · exact h
  all_goals exact h

theorem finish_lookInv (h : s.LookInv) : s.finish.LookInv := by
  obtain ⟨_, _, _, _, _, e⟩ := takePresented_frame s
  have hp : s.takePresented.LookInv := by rw [e]; exact h.samePort rfl rfl
  exact (arbitrate_lookInv hp).samePort (by simp [State.lookView, State.finish, State.holdOn]) (by simp [State.finish])

/-- Settles O4. -/
theorem nothingReadyLeftUndone : Obligations.NothingReadyLeftUndone := by
  intro c s s' h
  rcases exec_effect h with ⟨a, b, rfl⟩ | ⟨t, x, _, he, rfl⟩
  · rw [exec_powerOn h]
    exact ⟨rfl, .inr rfl, fun _ _ _ _ _ _ hr => nomatch hr⟩
  · refine ⟨arbitrate_grantPending x.takePresented, finish_handshake x, fun hi hl => finish_lookInv ?_⟩
    exact effect_lookInv (s := s.advance t) (hi.congr rfl rfl rfl) he (hl.samePort rfl rfl)

end Sys2Proof.Machine
end

section
/-! PROOFS. Addresses, zones and dispositions (R1, R5, R29, R106, R110, R111), and the pieces of a SPLIT task (R116,
R119). -/

namespace Sys2Proof.Machine

/-! ### Linear addresses and sectors (R29, R110) -/

theorem ofLinear_toLinear (g : Geometry) {c h x : Nat} (hs : 1 ≤ g.sectors) (hh : h < g.heads) (h1 : 1 ≤ x)
    (h2 : x ≤ g.sectors) : g.ofLinear ((c * g.heads + h) * g.sectors + x - 1) = ⟨c, h, x⟩ := by
  have hx : x - 1 < g.sectors := by omega
  rw [Nat.add_sub_assoc h1, Nat.mul_comm _ g.sectors]
  have hq : (g.sectors * (c * g.heads + h) + (x - 1)) / g.sectors = c * g.heads + h := by
    rw [Nat.mul_add_div (by omega), Nat.div_eq_of_lt hx, Nat.add_zero]
  have hr : (g.sectors * (c * g.heads + h) + (x - 1)) % g.sectors = x - 1 := by
    rw [Nat.mul_add_mod, Nat.mod_eq_of_lt hx]
  unfold Geometry.ofLinear
  rw [Nat.mul_comm g.heads, ← Nat.div_div_eq_div_mul, hq, hr, Nat.mul_comm c, Nat.mul_add_div (by omega),
    Nat.div_eq_of_lt hh, Nat.mul_add_mod, Nat.mod_eq_of_lt hh]
  simp only [Nat.add_zero, Nat.sub_add_cancel h1]

theorem toLinear_ofLinear (g : Geometry) (a : Nat) : g.toLinear (g.ofLinear a) = a := by
  unfold Geometry.toLinear Geometry.ofLinear
  dsimp only
  rw [Nat.mul_comm g.heads, ← Nat.div_div_eq_div_mul, Nat.div_add_mod' (a / g.sectors) g.heads, ← Nat.add_assoc,
    Nat.div_add_mod', Nat.add_sub_cancel]

/-- The address after a sector's is the next sector's, in its track, on the next head or on the next cylinder (R29). -/
theorem ofLinear_succ (g : Geometry) {a c h x : Nat} (hs : 1 ≤ g.sectors) (hh : h < g.heads) (h1 : 1 ≤ x)
    (h2 : x ≤ g.sectors) (ha : g.ofLinear a = ⟨c, h, x⟩) : g.ofLinear (a + 1) =
      if x < g.sectors then ⟨c, h, x + 1⟩ else if h + 1 < g.heads then ⟨c, h + 1, 1⟩ else ⟨c + 1, 0, 1⟩ := by
  have hl : a = (c * g.heads + h) * g.sectors + x - 1 := by rw [← toLinear_ofLinear g a, ha]; rfl
  split
  · next hx =>
    rw [← ofLinear_toLinear g (c := c) hs hh (x := x + 1) (by omega) (by omega), hl]
    congr 1; omega
  · next hx =>
    obtain rfl : x = g.sectors := by omega
    split
    · next hn =>
      rw [← ofLinear_toLinear g (c := c) hs hn (x := 1) (by omega) (by omega), hl]
      congr 1; rw [← Nat.add_assoc, Nat.succ_mul]; omega
    · next hn =>
      rw [← ofLinear_toLinear g (c := c + 1) (h := 0) hs (by omega) (x := 1) (by omega) (by omega), hl]
      obtain hhe : h + 1 = g.heads := by omega
      have : (c + 1) * g.heads = c * g.heads + h + 1 := by rw [Nat.succ_mul]; omega
      congr 1; rw [this, Nat.add_zero, Nat.succ_mul]; omega

/-- The sectors of a run are those of its successive addresses, none of them above cylinder 65535 (R110). -/
theorem run_eq_some_iff (g : Geometry) (a n : Nat) (secs : List Chs) : g.run a n = some secs ↔
    secs.length = n ∧ ∀ i, i < n → (a + i) / (g.heads * g.sectors) ≤ 65535 ∧ secs[i]? = some (g.ofLinear (a + i)) := by
  unfold Geometry.run
  dsimp only
  constructor
  · intro h
    split at h
    · next hall =>
      obtain rfl := Option.some.inj h
      refine ⟨by simp, fun i hi => ⟨?_, by simp [hi]⟩⟩
      exact of_decide_eq_true (List.all_eq_true.1 hall (g.ofLinear (a + i)) (List.mem_map.2 ⟨i, List.mem_range.2 hi, rfl⟩))
    · cases h
  · rintro ⟨hn, h⟩
    have hl : (List.range n).map (fun i => g.ofLinear (a + i)) = secs := by
      refine List.ext_getElem? fun i => ?_
      by_cases hi : i < n
      · rw [(h i hi).2]; simp [hi]
      · rw [List.getElem?_eq_none (by simp; omega), List.getElem?_eq_none (by omega)]
    rw [hl, if_pos]
    rw [← hl, List.all_map, List.all_eq_true]
    exact fun i hi => decide_eq_true (h i (List.mem_range.1 hi)).1

/-- Where a task's sectors lie on a known geometry (R29, R110). -/
theorem locate_known_iff (g : Geometry) (f : TaskFields) (n : Nat) (secs : List Chs) :
    locate (some g) f n = some secs ↔
      (f.addressing = .chs → f.head.val < g.heads ∧ f.sector ≤ g.sectors) ∧
        g.run (if f.addressing = .chs then (f.cylinder * g.heads + f.head.val) * g.sectors + f.sector - 1 else f.linear) n =
          some secs := by
  unfold locate
  cases ha : f.addressing with
  | chs =>
    by_cases h : f.head.val < g.heads ∧ f.sector ≤ g.sectors
    · simp only [forall_const, h, true_and, if_true]; rfl
    · simp only [forall_const, h, false_and]; exact iff_of_false nofun id
  | linear => simp

/-- A task on unknown geometry keeps to its track, and a LINEAR one cannot be located (R110). -/
theorem locate_unknown_iff (f : TaskFields) (n : Nat) (secs : List Chs) : locate none f n = some secs ↔
    f.addressing = .chs ∧ secs.length = n ∧
      ∀ i, i < n → secs[i]? = some ⟨f.cylinder, f.head.val, min 255 (f.sector + i)⟩ := by
  unfold locate
  cases ha : f.addressing with
  | linear => simp
  | chs =>
    simp only [true_and, Option.some.injEq]
    constructor
    · rintro rfl
      exact ⟨by simp, fun i hi => by simp [hi]⟩
    · rintro ⟨hn, h⟩
      refine List.ext_getElem? fun i => ?_
      by_cases hi : i < n
      · rw [h i hi]; simp [hi]
      · rw [List.getElem?_eq_none (by simp; omega), List.getElem?_eq_none (by omega)]

/-! ### Zones and entries (R1, R5, R111) -/

/-- A fold that keeps the latest element that fits gives the largest one of an ascending list, or the start value. -/
theorem foldl_latest {α : Type} [LinearOrder α] (P : α → Prop) [DecidablePred P] (l : List α) (hl : l.Pairwise (· < ·))
    (b : α) : (l.foldl (fun best z => if P z then z else best) b = b ∧ ∀ z ∈ l, ¬ P z) ∨
      ∃ r ∈ l, l.foldl (fun best z => if P z then z else best) b = r ∧ P r ∧ ∀ z ∈ l, r < z → ¬ P z := by
  induction l generalizing b with
  | nil => exact .inl ⟨rfl, fun _ hz => nomatch hz⟩
  | cons a l ih =>
    obtain ⟨ha, hl⟩ := List.pairwise_cons.1 hl
    rw [List.foldl_cons]
    rcases ih hl (if P a then a else b) with ⟨h, hn⟩ | ⟨r, hr, h, hp, hn⟩
    · by_cases hpa : P a
      · refine .inr ⟨a, List.mem_cons_self, by rw [h, if_pos hpa], hpa, fun z hz haz => ?_⟩
        rcases List.mem_cons.1 hz with rfl | hz
        · exact absurd haz (lt_irrefl _)
        · exact hn z hz
      · refine .inl ⟨by rw [h, if_neg hpa], fun z hz => ?_⟩
        rcases List.mem_cons.1 hz with rfl | hz
        · exact hpa
        · exact hn z hz
    · refine .inr ⟨r, List.mem_cons_of_mem _ hr, h, hp, fun z hz hrz => ?_⟩
      rcases List.mem_cons.1 hz with rfl | hz
      · exact absurd ((ha r hr).trans hrz) (lt_irrefl _)
      · exact hn z hz hrz

/-- The zone of a cylinder is the largest one defined that begins at or below it (R111). -/
theorem zoneOfCylinder_eq_iff (p : Plan) (cyl : Nat) (z : ZoneNo) (hc : 1 ≤ p.zoneCount)
    (h0 : (p.zones[0]).firstCylinder = 0) : p.zoneOfCylinder cyl = z ↔ z.val < p.zoneCount ∧
      (p.zones[z]).firstCylinder ≤ cyl ∧ ∀ y : ZoneNo, z < y → y.val < p.zoneCount → cyl < (p.zones[y]).firstCylinder := by
  have hlatest := foldl_latest (fun z : ZoneNo => z.val < p.zoneCount ∧ (p.zones[z]).firstCylinder ≤ cyl) allZones
    (by decide) 0
  have hall : ∀ z : ZoneNo, z ∈ allZones := List.mem_finRange
  change (p.zoneOfCylinder cyl = _ ∧ _) ∨ ∃ r ∈ allZones, p.zoneOfCylinder cyl = r ∧ _ at hlatest
  rcases hlatest with ⟨_, hn⟩ | ⟨r, _, hr, ⟨hrc, hrf⟩, hn⟩
  · exact absurd ⟨hc, by show (p.zones[0]).firstCylinder ≤ cyl; omega⟩ (hn 0 (hall 0))
  · rw [hr]
    have hmax : ∀ y : ZoneNo, r < y → y.val < p.zoneCount → cyl < (p.zones[y]).firstCylinder := fun y hy hyc =>
      Nat.lt_of_not_le fun hle => hn y (hall y) hy ⟨hyc, hle⟩
    constructor
    · rintro rfl; exact ⟨hrc, hrf, hmax⟩
    · rintro ⟨hzc, hzf, hz⟩
      rcases lt_trichotomy r z with h | h | h
      · exact absurd (hmax z h hzc) (by omega)
      · exact h
      · exact absurd (hz r h hrc) (by omega)

theorem inScope_iff (p : Plan) (i : EntryNo) : p.inScope i = true ↔ p.unitMask.get (unitOf i) = true ∧
    (p.headMask.get (unitOf i)).getLsbD (headOf i).val = true ∧ (zoneOf i).val < p.zoneCount := by
  simp [Plan.inScope, and_assoc]

/-! ### Dispositions of reads (R106) -/

variable {s : State}

theorem dispositionOf_read {op : Op} {f : TaskFields} (ho : op ∈ [Op.read, .readRaw, .verify]) (ha : s.active = true) :
    s.dispositionOf ⟨op, f⟩ = readDisposition s.plan (s.geometry.get f.unit) s.straps.service f := by
  unfold State.dispositionOf activeDisposition
  rw [if_pos ha]
  simp only [List.mem_cons, List.not_mem_nil, or_false] at ho
  rcases ho with rfl | rfl | rfl <;> rfl

section
variable {p : Plan} {g : Option Geometry} {strap : BitVec 8} {f : TaskFields} {secs : List Chs}

/-- Test 1. -/
theorem readDisposition_local (hl : locate g f f.count = some secs) (h : ∀ c ∈ secs, inServiceArea strap c = true) :
    readDisposition p g strap f = (.localAnswer (secs.map (·.sector)), .localAnswers) := by
  unfold readDisposition
  simp only [hl]
  rw [if_pos (List.all_eq_true.2 h)]

/-- Test 2. -/
theorem readDisposition_straddles (hl : locate g f f.count = some secs) (hi : ∃ c ∈ secs, inServiceArea strap c = true)
    (ho : ∃ c ∈ secs, ¬ inServiceArea strap c = true) : readDisposition p g strap f = (.pass, .untranslated) := by
  obtain ⟨c, hc, hn⟩ := ho
  unfold readDisposition
  simp only [hl]
  rw [if_neg fun hall => hn (List.all_eq_true.1 hall c hc), if_pos (List.any_eq_true.2 hi)]

theorem not_serviceArea (hn : 1 ≤ f.count) (hl : locate g f f.count = some secs)
    (h : ∀ c ∈ secs, ¬ inServiceArea strap c = true) :
    ¬ secs.all (inServiceArea strap) = true ∧ ¬ secs.any (inServiceArea strap) = true := by
  obtain ⟨c, hc⟩ := List.exists_mem_of_ne_nil secs (locate_ne_nil hn hl)
  exact ⟨fun hall => h c hc (List.all_eq_true.1 hall c hc), fun hany => by
    obtain ⟨d, hd, hin⟩ := List.any_eq_true.1 hany; exact h d hd hin⟩

/-- Test 3. -/
theorem readDisposition_offset (hn : 1 ≤ f.count)
    (h : ∀ secs, locate g f f.count = some secs → ∀ c ∈ secs, ¬ inServiceArea strap c = true) (ho : f.offset ≠ 0) :
    readDisposition p g strap f = (.pass, .passed) := by
  unfold readDisposition
  cases hl : locate g f f.count with
  | none => simp only [if_neg ho]
  | some secs =>
    obtain ⟨h1, h2⟩ := not_serviceArea hn hl (h secs hl)
    dsimp only
    rw [if_neg h1, if_neg h2, if_pos ho]

/-- Test 4. -/
theorem readDisposition_unlocated (hl : locate g f f.count = none) (ho : f.offset = 0) :
    readDisposition p g strap f = (.pass, .untranslated) := by
  unfold readDisposition
  simp only [hl, if_pos ho]

/-- Tests 5 to 8: the entries of the sectors decide. -/
theorem readDisposition_entries (hn : 1 ≤ f.count) (hl : locate g f f.count = some secs)
    (h : ∀ c ∈ secs, ¬ inServiceArea strap c = true) (ho : f.offset = 0) :
    (∀ e, (∀ c ∈ secs, p.entryOfSector f.unit c = e) →
      (p.inScope e = false → readDisposition p g strap f = (.pass, .passed)) ∧
      (p.inScope e = true → readDisposition p g strap f = (.apply e, .applied))) ∧
    ((∃ c ∈ secs, ∃ d ∈ secs, p.entryOfSector f.unit c ≠ p.entryOfSector f.unit d) →
      ((∃ c ∈ secs, p.inScope (p.entryOfSector f.unit c) = true) → readDisposition p g strap f =
        (.split ⟨buildPieces (p.entryOfSector f.unit) p.inScope secs, 0, f.count, false⟩, .split)) ∧
      ((∀ c ∈ secs, p.inScope (p.entryOfSector f.unit c) = false) → readDisposition p g strap f = (.pass, .passed))) := by
  obtain ⟨h1, h2⟩ := not_serviceArea hn hl h
  unfold readDisposition
  simp only [hl, if_neg h1, if_neg h2, ho, ne_eq, not_true_eq_false, if_false]
  cases secs with
  | nil => exact absurd rfl (locate_ne_nil hn hl)
  | cons c cs =>
    simp only [List.map_cons]
    constructor
    · intro e he
      have hall : ((cs.map (p.entryOfSector f.unit)).all fun x => decide (x = p.entryOfSector f.unit c)) = true := by
        rw [List.all_map, List.all_eq_true]
        exact fun d hd => decide_eq_true ((he d (List.mem_cons_of_mem _ hd)).trans (he c List.mem_cons_self).symm)
      rw [if_pos hall, he c List.mem_cons_self]
      exact ⟨fun hs => by simp [hs], fun hs => by simp [hs]⟩
    · rintro ⟨x, hx, y, hy, hxy⟩
      have hall : ¬ ((cs.map (p.entryOfSector f.unit)).all fun x => decide (x = p.entryOfSector f.unit c)) = true := by
        rw [List.all_map, List.all_eq_true]
        intro hall
        have hsame : ∀ d ∈ c :: cs, p.entryOfSector f.unit d = p.entryOfSector f.unit c := fun d hd => by
          rcases List.mem_cons.1 hd with rfl | hd
          · rfl
          · exact of_decide_eq_true (hall d hd)
        exact hxy ((hsame x hx).trans (hsame y hy).symm)
      rw [if_neg hall, ← List.map_cons, List.any_map]
      refine ⟨fun hs => if_pos (List.any_eq_true.2 hs), fun hs => if_neg fun hany => ?_⟩
      obtain ⟨d, hd, hin⟩ := List.any_eq_true.1 hany
      rw [Function.comp_apply, hs d hd] at hin
      cases hin

end

/-- Settles O19. -/
theorem readDispositionByTheEightTests : Obligations.ReadDispositionByTheEightTests := by
  refine ⟨fun op f s ho ha hn => ?_, fun f n secs => ⟨fun g => ?_, locate_unknown_iff f n secs⟩, fun g a c h x hs hh h1 h2 => ?_,
    fun p u cyl h x z i hc h0 => ?_⟩
  · dsimp only
    rw [dispositionOf_read ho ha]
    simp only [← inServiceArea_iff]
    exact ⟨fun secs hl h => readDisposition_local hl h, fun secs hl hi ho => readDisposition_straddles hl hi ho,
      fun h ho => readDisposition_offset hn h ho, fun hl ho => readDisposition_unlocated hl ho,
      fun secs hl h ho => readDisposition_entries hn hl h ho⟩
  · rw [locate_known_iff, run_eq_some_iff]
    rfl
  · exact ⟨ofLinear_toLinear g hs hh h1 h2, ofLinear_succ g hs hh h1 h2⟩
  · refine ⟨zoneOfCylinder_eq_iff p cyl z hc h0, ?_, ?_, inScope_iff p i⟩
    · simp [Plan.entryOfSector, entryNo]
    · simp only [unitOf, headOf, zoneOf]; omega

/-! ### Pieces (R116, R119) -/

section
variable (entryOf : Chs → EntryNo) (scope : EntryNo → Bool)

/-- The first piece starts at the first sector, with its entry. -/
theorem buildPieces_head {c : Chs} {cs : List Chs} {p : Piece} {ps : List Piece}
    (h : buildPieces entryOf scope (c :: cs) = p :: ps) : p.start = c ∧ p.entry = entryOf c := by
  unfold buildPieces at h
  split at h
  · cases h; exact ⟨rfl, rfl⟩
  · split at h
    · next he => cases h; exact ⟨rfl, he.symm⟩
    · cases h; exact ⟨rfl, rfl⟩

/-- The pieces, each entry said as often as its count, are the sectors' entries. -/
theorem buildPieces_entries (secs : List Chs) :
    ((buildPieces entryOf scope secs).flatMap fun p => List.replicate p.count p.entry) = secs.map entryOf := by
  induction secs with
  | nil => rfl
  | cons c cs ih =>
    unfold buildPieces
    split
    · next h => rw [h] at ih; simpa using ih
    · next p ps h =>
      rw [h, List.flatMap_cons] at ih
      split
      · next he => rw [List.flatMap_cons, List.map_cons, ← ih, he, List.replicate_succ]; rfl
      · rw [List.flatMap_cons, List.flatMap_cons, List.map_cons, ← ih]; rfl

/-- A piece is not empty, carries its entry's scope, and starts where the pieces before it end. -/
theorem buildPieces_places (secs : List Chs) : ∀ k p, (buildPieces entryOf scope secs)[k]? = some p →
    1 ≤ p.count ∧ p.inScope = scope p.entry ∧
      secs[(((buildPieces entryOf scope secs).take k).map (·.count)).sum]? = some p.start := by
  induction secs with
  | nil => intro k p h; cases h
  | cons c cs ih =>
    unfold buildPieces
    split
    · intro k p h
      cases k with
      | zero => cases h; exact ⟨le_refl 1, rfl, rfl⟩
      | succ k => cases h
    · next q qs hq =>
      rw [hq] at ih
      have hfirst := ih 0 q rfl
      split
      · intro k p h
        cases k with
        | zero => cases h; exact ⟨Nat.le_add_left 1 _, hfirst.2.1, rfl⟩
        | succ k =>
          obtain ⟨h1, h2, h3⟩ := ih (k + 1) p h
          refine ⟨h1, h2, ?_⟩
          rw [List.take_succ_cons, List.map_cons, List.sum_cons] at h3 ⊢
          dsimp only
          rw [Nat.add_right_comm, List.getElem?_cons_succ]
          exact h3
      · intro k p h
        cases k with
        | zero => cases h; exact ⟨le_refl 1, rfl, rfl⟩
        | succ k =>
          obtain ⟨h1, h2, h3⟩ := ih k p h
          refine ⟨h1, h2, ?_⟩
          rw [List.take_succ_cons, List.map_cons, List.sum_cons, Nat.add_comm, List.getElem?_cons_succ]
          exact h3

/-- Neighbouring pieces have different entries. -/
theorem buildPieces_differ (secs : List Chs) : (buildPieces entryOf scope secs).IsChain (·.entry ≠ ·.entry) := by
  induction secs with
  | nil => exact .nil
  | cons c cs ih =>
    unfold buildPieces
    split
    · exact .singleton _
    · next q qs hq =>
      rw [hq] at ih
      split
      · cases qs with
        | nil => exact .singleton _
        | cons r rs =>
          obtain ⟨h1, h2⟩ := List.isChain_cons_cons.1 ih
          exact List.isChain_cons_cons.2 ⟨h1, h2⟩
      · next hne => exact List.isChain_cons_cons.2 ⟨hne, ih⟩

end

theorem run_length {g : Geometry} {a n : Nat} {secs : List Chs} (h : g.run a n = some secs) : secs.length = n :=
  ((run_eq_some_iff g a n secs).1 h).1

/-- A failing piece leaves its own rest and the pieces not issued (R119). -/
theorem mergedError_remaining {g : Geometry} {a n k : Nat} {secs : List Chs} {entryOf : Chs → EntryNo}
    {scope : EntryNo → Bool} {q : Sequencer} {p : Piece} {c : Completion} (hr : g.run a n = some secs)
    (hq : q.pieces = buildPieces entryOf scope secs) (hc : q.cursor = k + 1) (ho : q.outstanding = q.toIssue)
    (hp : q.pieces[k]? = some p) (hle : c.remaining ≤ p.count)
    (hlast : c.last = g.ofLinear (a + ((q.pieces.take k).map (·.count)).sum + (p.count - c.remaining))) :
    (mergedError q c).remaining = a + n - g.toLinear c.last := by
  obtain ⟨hk, hget⟩ := List.getElem?_eq_some_iff.1 hp
  have hsum : ((q.pieces.take k).map (·.count)).sum + (p.count + ((q.pieces.drop (k + 1)).map (·.count)).sum) = n := by
    rw [← run_length hr, ← buildPieces_sum entryOf scope secs, ← hq]
    conv_rhs => rw [← List.take_append_drop k q.pieces, ← List.cons_getElem_drop_succ (h := hk), hget]
    simp
  have hrest : q.outstanding = ((q.pieces.drop (k + 1)).map (·.count)).sum := by rw [ho, Sequencer.toIssue, hc]
  rw [hlast, toLinear_ofLinear]
  show c.remaining + q.outstanding = _
  omega

/-- Settles O35. -/
theorem piecesCoverTheTask : Obligations.PiecesCoverTheTask := by
  refine ⟨fun entryOf scope secs => ⟨buildPieces_entries entryOf scope secs, fun k hk => ?_, fun k hk => ?_⟩,
    fun g a n secs entryOf scope k q p c _ _ hr hq hc ho hp _ hle hlast => mergedError_remaining hr hq hc ho hp hle hlast⟩
  · exact buildPieces_places entryOf scope secs k _ (List.getElem?_eq_getElem hk)
  · exact List.isChain_iff_getElem.1 (buildPieces_differ entryOf scope secs) k hk

end Sys2Proof.Machine
end

section
/-! PROOFS. A bench task from its presentation to its grant (R26, R104 to R108, R114, R117, R121, R122, R131), and a LOCAL
answer sector by sector (R171 to R173). -/

namespace Sys2Proof.Machine

variable {s : State}

theorem next_pins {x y : State} (h : x = y) : (Host.Outcome.next x.drivePins : Result) = .next y.drivePins := by rw [h]

/-! ### Waiting (R26, R130) -/

/-- Settles O14. -/
theorem taskWaitsItsTurn : Obligations.TaskWaitsItsTurn := by
  constructor
  · intro op t f s hr hb he
    rw [exec_benchCommand]
    unfold State.benchTask State.finish
    rw [takePresented_of_notReady ((s.advance t).present ⟨op, f⟩) hr]
    exact next_pins (arbitrate_of_quiet _ hb he)
  · intro op t f s d n hr hp hf hd hl
    rw [exec_benchCommand]
    unfold State.benchTask State.finish
    rw [takePresented_present s op t f hr hp, takeTask_waits (s.advance t) _ hd hl]
    exact next_pins (arbitrate_of_held _ hf)

/-! ### The grant of a bench task (R131) -/

/-- The port and the slot once task `b` is granted the port and the record `k` is on the drive side (R25, R131, R134). -/
def State.benchGranted (s : State) (b : BenchTask) (g : Option Nat) (k : Task) : State :=
  { s with
    slot := some { b with phase := .issued }
    port := { s.port with
      state := .bench b.task.fields.unit
      graceRun := s.graceRunAtGrant g
      task := some ⟨k, s.opensTask k.fields.unit⟩ } }

variable {b : BenchTask} {g : Option Nat}

theorem grantBench_pass (s : State) (hd : b.disp = .pass) :
    s.grantBench b g = (s.benchGranted b g b.task).issueEffects b.task := by
  cases b; cases hd; rfl

theorem grantBench_snoop (s : State) {place : Nat} (hd : b.disp = .snoop place) :
    s.grantBench b g = (({ s with copy := {} } : State).benchGranted b g b.task).issueEffects b.task := by
  cases b; cases hd; rfl

theorem grantBench_apply (s : State) {e : EntryNo} (hd : b.disp = .apply e) : s.grantBench b g =
    s.benchGranted b g { b.task with fields := { b.task.fields with offset := s.offsetFor e } } := by
  cases b; cases hd; rfl

theorem grantBench_split (s : State) {q : Sequencer} {p : Piece} (hd : b.disp = .split q)
    (hp : q.pieces[q.cursor]? = some p) :
    s.grantBench b g = s.benchGranted { b with disp := .split (q.afterIssue p) } g (s.pieceTask b.task p) := by
  cases b; cases hd
  simp only [State.grantBench, State.issueBench, State.issuePiece, hp]
  rfl

theorem issueEffects_of_plain {k : Task} (h : k.op ∉ [Op.write, .spinDown]) (s : State) : s.issueEffects k = s := by
  unfold State.issueEffects
  cases ho : k.op <;> simp_all

theorem issueEffects_of_transparent {k : Task} (h : k.op ≠ .spinDown) (ha : s.active = false) : s.issueEffects k = s := by
  unfold State.issueEffects
  cases ho : k.op <;> simp_all

/-! ### Passed tasks (R104, R106, R108) -/

/-- A PASS whose issue does nothing inside the part goes out as the bench sent it, and moves its counter. -/
theorem exec_passed (op : Op) (t : Nat) (f : TaskFields) {n : CounterName} (hr : s.benchReady = true)
    (hp : s.presented = []) (hf : s.port.state = .free g) (hd : s.dispositionOf ⟨op, f⟩ = (.pass, n))
    (he : op ∉ [Op.write, .spinDown] ∨ op ≠ .spinDown ∧ s.active = false) :
    exec (benchCommand op t f) s = .next (State.drivePins { s.advance t with
      counters := s.counters.bump n
      slot := some { task := ⟨op, f⟩, disp := .pass, phase := .issued }
      port := { s.port with
        state := .bench f.unit
        graceRun := if g.isSome && s.sweepReady then min 255 (s.port.graceRun + 1) else s.port.graceRun
        task := some ⟨⟨op, f⟩, s.opensTask f.unit⟩ } }) := by
  rw [exec_bench_grants s op t f hr hp hf hd nofun, grantBench_pass _ rfl]
  rcases he with he | ⟨he, ha⟩
  · exact next_pins (issueEffects_of_plain (k := ⟨op, f⟩) he _)
  · exact next_pins (issueEffects_of_transparent (k := ⟨op, f⟩) he ha)

/-- Settles O15. -/
theorem passedOpIsIssuedUnaltered : Obligations.PassedOpIsIssuedUnaltered := by
  intro op t f s g hr hp hf issuedWith
  refine ⟨fun h => ?_, fun ho ha => ?_⟩
  · rcases h with ho | ⟨ha, ho⟩ | ⟨ha, ho, hn, hoff, hsecs⟩
    · have hd : s.dispositionOf ⟨op, f⟩ = (.pass, .passed) := by
        unfold State.dispositionOf activeDisposition
        split
        · simp only [List.mem_cons, List.not_mem_nil, or_false] at ho
          rcases ho with rfl | rfl | rfl | rfl | rfl | rfl | rfl <;> rfl
        · rfl
      refine exec_passed op t f hr hp hf hd (.inl fun hm => ?_)
      simp only [List.mem_cons, List.not_mem_nil, or_false] at ho hm
      rcases hm with rfl | rfl <;> simp at ho
    · have hd : s.dispositionOf ⟨op, f⟩ = (.pass, .passed) := by simp [State.dispositionOf, ha]
      exact exec_passed op t f hr hp hf hd (.inr ⟨ho, ha⟩)
    · have hd : s.dispositionOf ⟨op, f⟩ = (.pass, .passed) := by
        rw [dispositionOf_read ho ha]
        exact readDisposition_offset hn (fun secs hl c hc hin => hsecs secs hl c hc ((inServiceArea_iff _ c).1 hin)) hoff
      refine exec_passed op t f hr hp hf hd (.inl fun hm => ?_)
      simp only [List.mem_cons, List.not_mem_nil, or_false] at ho hm
      rcases hm with rfl | rfl <;> simp at ho
  · have he : op ∉ [Op.write, .spinDown] := fun hm => by
      simp only [List.mem_cons, List.not_mem_nil, or_false] at ho hm
      rcases hm with rfl | rfl <;> simp at ho
    exact ⟨fun hd => exec_passed op t f hr hp hf hd (.inl he), fun hd => exec_passed op t f hr hp hf hd (.inl he)⟩

/-! ### SPIN DOWN (R122, R151) -/

theorem endSweepOn_of_other (s : State) (u : UnitNo) (e : Ending)
    (h : ∀ c, s.engine = some c → s.active = false ∨ unitOf c.subject ≠ u) : s.endSweepOn u e = s := by
  unfold State.endSweepOn
  split
  · rfl
  · next c hc =>
    rw [if_neg]
    rintro ⟨ha, hu⟩
    rcases h c hc with h | h
    · rw [h] at ha; cases ha
    · exact h hu

theorem spinDown_eq (m : Monitor) (now : Nat) : m.spinDown now =
    if m.state ∈ [SpindleState.spinningUp, .settled, .stopping] then
      { m with state := .stopping, stoppingSince := some now } else m := by
  unfold Monitor.spinDown
  cases m.state <;> rfl

/-- Settles O16. -/
theorem spinDownTellsTheMonitor : Obligations.SpinDownTellsTheMonitor := by
  intro t f s g hr hp hf hs
  have hd : s.dispositionOf ⟨.spinDown, f⟩ = (.pass, .passed) := by
    unfold State.dispositionOf activeDisposition; split <;> rfl
  refine (exec_bench_grants s .spinDown t f hr hp hf hd nofun).trans ?_
  rw [grantBench_pass _ rfl]
  rw [← spinDown_eq]
  exact next_pins (endSweepOn_of_other _ _ _ hs)

/-! ### WRITE (R107, R121) -/

theorem isPlanSector_eq (strap : BitVec 8) :
    isPlanSector strap = fun c => decide (c = ⟨strap.toNat * 256, 0, 1⟩) := by
  funext c
  obtain ⟨x, h, n⟩ := c
  rw [Bool.eq_iff_iff]
  simp only [isPlanSector, Bool.and_eq_true, inServiceArea_iff, decide_eq_true_eq, Chs.mk.injEq]
  constructor
  · rintro ⟨⟨h1, h2, _, _⟩, h3⟩; exact ⟨h1, h2, h3⟩
  · rintro ⟨rfl, rfl, rfl⟩; exact ⟨⟨rfl, rfl, by omega, by omega⟩, rfl⟩

/-- The disposition of a WRITE in ACTIVE mode, by the place of the plan sector (R107). -/
theorem dispositionOf_write (ha : s.active = true) (f : TaskFields) : s.dispositionOf ⟨.write, f⟩ =
    (((locate (s.geometry.get f.unit) f f.count).bind fun secs =>
        secs.findIdx? fun c => decide (c = ⟨s.straps.service.toNat * 256, 0, 1⟩)).elim .pass .snoop, .passed) := by
  unfold State.dispositionOf
  rw [if_pos ha]
  simp only [activeDisposition, writeDisposition, isPlanSector_eq]
  cases locate (s.geometry.get f.unit) f f.count with
  | none => rfl
  | some secs =>
    simp only [Option.bind_some]
    cases secs.findIdx? fun c => decide (c = ⟨s.straps.service.toNat * 256, 0, 1⟩) <;> rfl

/-- The entries a WRITE overlaps lose laid when it is issued (R121). -/
theorem issueEffects_write {s : State} {k : Task} (ho : k.op = .write) (ha : s.active = true) : s.issueEffects k =
    (allEntries.filter (writeOverlaps s.plan (s.geometry.get k.fields.unit) k.fields)).foldl State.patternLoss s := by
  unfold State.issueEffects
  rw [ho]
  simp only [ha, if_true]

/-- A WRITE that READY admits is granted, as a SNOOP with plan intake's copy emptied, and does its overlap check (R121,
R131, R157). -/
theorem exec_write (t : Nat) (f : TaskFields) (place : Option Nat) (ha : s.active = true) (hr : s.benchReady = true)
    (hp : s.presented = []) (hf : s.port.state = .free g)
    (hq : ((locate (s.geometry.get f.unit) f f.count).bind fun secs =>
      secs.findIdx? fun c => decide (c = ⟨s.straps.service.toNat * 256, 0, 1⟩)) = place) :
    exec (.write t f) s = .next (State.drivePins <|
      (allEntries.filter (writeOverlaps s.plan (s.geometry.get f.unit) f)).foldl State.patternLoss { s.advance t with
        counters := { s.counters with passed := s.counters.passed + 1 }
        slot := some { task := ⟨.write, f⟩, disp := place.elim .pass .snoop, phase := .issued }
        copy := if place.isSome then {} else s.copy
        port := { s.port with
          state := .bench f.unit
          graceRun := if g.isSome && s.sweepReady then min 255 (s.port.graceRun + 1) else s.port.graceRun
          task := some ⟨⟨.write, f⟩, s.opensTask f.unit⟩ } }) := by
  have hd := dispositionOf_write ha f
  rw [hq] at hd
  cases place with
  | none =>
    refine (exec_bench_grants s .write t f hr hp hf hd nofun).trans ?_
    rw [grantBench_pass _ rfl]
    exact next_pins (issueEffects_write (k := ⟨.write, f⟩) rfl ha)
  | some q =>
    refine (exec_bench_grants s .write t f hr hp hf hd nofun).trans ?_
    rw [grantBench_snoop _ rfl]
    exact next_pins (issueEffects_write (k := ⟨.write, f⟩) rfl ha)

/-- Settles O17. -/
theorem writeIsPassedOrSnooped : Obligations.WriteIsPassedOrSnooped := by
  intro t f s g place ha hr hp hf ho hq
  rw [exec_write t f place ha hr hp hf hq]
  have hnone : allEntries.filter (writeOverlaps s.plan (s.geometry.get f.unit) f) = [] :=
    List.filter_eq_nil_iff.2 fun i _ => by simp [ho i]
  rw [hnone]
  cases place <;> rfl

/-! ### SPLIT (R116, R117) -/

/-- Settles O21. -/
theorem splitIssuesItsFirstPiece : Obligations.SplitIssuesItsFirstPiece := by
  intro op t f s g p ps total hd hr hp hf
  rw [exec_bench_grants s op t f hr hp hf hd nofun, grantBench_split _ rfl rfl]
  rfl

/-! ### LOCAL answers (R171 to R173) -/

theorem coversHeader_iff (l : List Nat) : coversHeader l = true ↔ 2 ∈ l := by
  simp [coversHeader]

/-- An admitted LOCAL task goes to LOCAL, a VERIFY past it, with a snapshot when it covers sector 2 (R105, R171, R173). -/
theorem takeTask_local (x : State) (k : Task) {l : List Nat} (hd : x.dispositionOf k = (.localAnswer l, .localAnswers)) :
    let counted := { x with counters := { x.counters with localAnswers := x.counters.localAnswers + 1 } }
    x.takeTask k = { counted with
      snapshot := if 2 ∈ l then some counted.takeView else x.snapshot
      snapNumber := if 2 ∈ l then (if x.snapNumber = 65535 then 1 else x.snapNumber + 1) else x.snapNumber
      slot := some
        { task := k
          disp := .localAnswer l
          phase := if k.op = .verify then
              .completing ⟨.good, false, 0, ⟨x.straps.service.toNat * 256, 0, l.getLastD 1⟩, none⟩
            else .localAnswer } } := by
  intro counted
  unfold State.takeTask
  rw [hd]
  dsimp only
  by_cases hl : 2 ∈ l
  · rw [if_pos ((coversHeader_iff l).2 hl), if_pos hl, if_pos hl]; rfl
  · rw [if_neg (fun h => hl ((coversHeader_iff l).1 h)), if_neg hl, if_neg hl]; rfl

/-- Settles O22. -/
theorem localTaskIsAnsweredByThePart : Obligations.LocalTaskIsAnsweredByThePart := by
  constructor
  · intro op t f s l hd hr hp he counted
    rw [exec_benchCommand]
    unfold State.benchTask State.finish
    rw [takePresented_present s op t f hr hp, takeTask_local (s.advance t) ⟨op, f⟩ hd]
    refine next_pins (arbitrate_of_quiet _ ?_ he)
    exact benchAsks_of_phase _ rfl (by dsimp only; split <;> simp)
  · intro t s b l n hs hp hd hn ho he
    cases b with | mk task disp phase passed abort finishing =>
    cases hp
    cases hd
    have hget : l.getD passed 0 = n := by rw [List.getD_eq_getElem?_getD, hn]; rfl
    simp only [exec, execLocalSectorTaken, State.advance_slot, hs]
    have hfin := finish_of_occupied
      ((s.advance t).localTaken ⟨task, .localAnswer l, .localAnswer, passed, abort, finishing⟩ l) rfl
      (benchAsks_of_phase _ rfl (by dsimp only; split <;> simp)) he
    refine (congrArg Host.Outcome.next hfin).trans (next_pins ?_)
    unfold State.localTaken
    simp only [hget, State.passLocal, localSector_eq _ _ _ ho]
    by_cases hlt : passed + 1 < l.length
    · simp only [hlt, Nat.not_le.2 hlt, decide_false]; rfl
    · simp only [hlt, Nat.not_lt.1 hlt, decide_true]; rfl

/-! ### The end of a bench task (R26, R27) -/

/-- A record held at the handshake is taken when READY shows, as if presented then (R26). -/
theorem finish_of_shown (shown : State) (t : Nat) {op : Op} {f : TaskFields} {rest : List Task}
    (hp : shown.presented = ⟨op, f⟩ :: rest) (hr : shown.benchReady = true) (ht : t ≤ shown.now) :
    (rest = [] → (.next shown.finish : Result) = exec (benchCommand op t f) { shown with presented := [] }) ∧
    ∀ (d : Disposition) (n : CounterName), shown.dispositionOf ⟨op, f⟩ = (d, n) → (∀ l, d ≠ .localAnswer l) →
      shown.port.state.isFree = false → shown.finish = State.drivePins { shown with
        presented := rest
        counters := shown.counters.bump n
        slot := some { task := ⟨op, f⟩, disp := d, phase := .waiting } } := by
  constructor
  · rintro rfl
    rw [exec_benchCommand]
    have hsame : (State.advance { shown with presented := [] } t).present ⟨op, f⟩ = shown := by
      unfold State.present State.advance
      dsimp only
      rw [Nat.max_eq_left ht, List.nil_append, ← hp]
    unfold State.benchTask
    rw [hsame]
  · intro d n hd hl hf
    unfold State.finish
    rw [takePresented_of_ready shown hp hr, takeTask_waits { shown with presented := rest } _ hd hl]
    exact congrArg State.drivePins (arbitrate_of_held _ hf)

/-- Settles O24. -/
theorem takingTheCompletionEmptiesTheSlot : Obligations.TakingTheCompletionEmptiesTheSlot := by
  have htakes {t : Nat} {s : State} {b : BenchTask} {k : Completion} (hs : s.slot = some b) (hb : b.phase = .completing k) :
      exec (.benchTakesCompletion t) s = .next (State.finish { s.advance t with slot := none }) := by
    simp only [exec, execBenchTakesCompletion, State.advance_slot, hs, hb]
    rfl
  refine ⟨fun t s b k hs hb hp he => ⟨?_, by simp [State.pinsRule, State.benchReady]⟩, fun t s op f rest hp => ?_⟩
  · rw [htakes hs hb]
    exact next_of_quiet _ _ hp rfl he rfl
  · intro takesAt
    have hshown (c : Instr) (shown : State) (hx : exec c s = .next shown.finish) (hp' : shown.presented = s.presented)
        (hr : shown.benchReady = true) (hnow : shown.now = max s.now t)
        (hd : ∀ k, shown.dispositionOf k = s.dispositionOf k) (hq : shown.port = s.port)
        (hn : shown.counters = s.counters) : takesAt c shown := by
      obtain ⟨h1, h2⟩ := finish_of_shown shown t (hp'.trans hp) hr (by rw [hnow]; exact Nat.le_max_right _ _)
      refine ⟨fun hrest => hx.trans (h1 hrest), fun d n hdn hl hf => ?_⟩
      rw [hx, h2 d n ((hd _).trans hdn) hl (by rw [hq]; exact hf), hn]
    refine ⟨fun b k hs hb hi hc => ?_, fun hs hc hn => ?_, fun hs hi => ?_⟩
    · exact hshown _ _ (htakes hs hb) rfl ((benchReady_iff _).2 ⟨hi, hc, rfl⟩) rfl (fun _ => rfl) rfl rfl
    · refine hshown _ _ ?_ rfl ((benchReady_iff _).2 ⟨rfl, hc, hs⟩) rfl (fun _ => rfl) rfl rfl
      simp only [exec, execPowerOnIntervalEnd]
      exact if_pos hn
    · exact hshown _ _ rfl rfl ((benchReady_iff _).2 ⟨hi, rfl, hs⟩) rfl (fun _ => rfl) rfl rfl

end Sys2Proof.Machine
end

section
/-! PROOFS. The engine's take of a record (R9, R48, R49, R51, R52), and the overlap check of a WRITE with the sweep it may
end (R21, R93, R121). -/

namespace Sys2Proof.Machine

variable {s : State}

/-! ### The take of a record -/

theorem eligible_iff (r : QueueRec) : s.eligible r = true ↔
    s.settled (unitOf r.entry) = true ∧ s.wedgedOn (unitOf r.entry) = false ∧ s.plan.inScope r.entry = true := by
  simp [State.eligible, and_assoc]

/-- An engine that may look takes the eligible record nearest the front (R49). -/
theorem look_takes (b : Bool) {front back : List QueueRec} {r : QueueRec} (he : s.engine = none) (hh : s.holdOn = false)
    (ha : s.active = true) (hq : s.queue = front ++ r :: back) (hf : ∀ x ∈ front, s.eligible x = false)
    (hr : s.eligible r = true) : s.look b = s.takeRecord b r := by
  have hfind : s.queue.find? s.eligible = some r := by
    rw [hq, List.find?_append, List.find?_eq_none.2 fun x hx => by simp [hf x hx]]
    simp [hr]
  unfold State.look
  simp [he, hh, ha, hfind]

/-- With no entry marked wanted there is nothing to re-offer (R46). -/
theorem reoffer_of_noneWanted (h : ∀ i, (s.entry i).wanted = none) : s.reoffer = s := by
  unfold State.reoffer
  generalize allEntries = l
  induction l with
  | nil => rfl
  | cons a l ih =>
    rw [List.foldl_cons, show s.reofferOne a = s by simp [State.reofferOne, h a]]
    exact ih

theorem erase_first {front back : List QueueRec} {r : QueueRec} (hf : ∀ x ∈ front, s.eligible x = false)
    (hr : s.eligible r = true) : (front ++ r :: back).erase r = front ++ back := by
  have : r ∉ front := fun hm => by rw [hf r hm] at hr; cases hr
  rw [List.erase_append_right _ this, List.erase_cons_head]

/-- The take of a record while no entry is marked wanted (R9, R49, R182, R183). -/
theorem takeRecord_eq (b : Bool) (r : QueueRec) (hw : ∀ i, (s.entry i).wanted = none) : s.takeRecord b r =
    State.setEntry { s with
      engine := some (s.buildContext r)
      queue := s.queue.erase r
      swmark := s.swmarkStart b
      blink := some ⟨true, s.now + 500000⟩ } r.entry { s.entry r.entry with state := .measuring, candidate := none } := by
  unfold State.takeRecord
  refine reoffer_of_noneWanted fun i => ?_
  rw [State.entry_setEntry]
  split
  · exact hw _
  · exact hw i

theorem swmarkStart_eq (b : Bool) : s.swmarkStart b = if s.plan.swmarkMode = .sweep then
    (if b then ⟨false, some (s.now + 2), none⟩ else ⟨true, none, none⟩) else s.swmark := by
  unfold State.swmarkStart
  cases s.plan.swmarkMode <;> rfl

/-- Settles O52. -/
theorem engineTakesTheFirstEligibleRecord : Obligations.EngineTakesTheFirstEligibleRecord := by
  intro s b fit
  have hfit (r : QueueRec) : ¬ fit r ↔ s.eligible r = false := by
    rw [← Bool.not_eq_true]
    exact not_congr (eligible_iff r).symm
  refine ⟨fun h => ?_, fun front back r he hh ha hq hf hr _ hw => ?_⟩
  · rcases h with h | h | h | h
    · obtain ⟨c, hc⟩ := Option.ne_none_iff_exists'.1 h
      exact look_of_running s b hc
    · exact look_of_held s b h
    · simp [State.look, h]
    · exact look_of_noneEligible s b fun r hr => (hfit r).1 (h r hr)
  · intro row points
    have hf' : ∀ x ∈ front, s.eligible x = false := fun x hx => (hfit x).1 (hf x hx)
    have hr' := (eligible_iff r).2 hr
    have e := look_takes b he hh ha hq hf' hr'
    rw [e, takeRecord_eq b r hw]
    refine ⟨?_, State.entry_setEntry_self _ _ _, fun i hi => State.entry_setEntry_ne _ _ hi, swmarkStart_eq b, rfl, rfl⟩
    show s.queue.erase r = _
    rw [hq, erase_first hf' hr']

/-! ### Pattern loss (R21, R121) -/

/-- Whether a WRITE overlaps the test sectors of an entry (R121). -/
theorem writeOverlaps_iff (p : Plan) (g : Option Geometry) (f : TaskFields) (i : EntryNo) : writeOverlaps p g f i = true ↔
    unitOf i = f.unit ∧ ∀ secs, locate g f f.count = some secs →
      ∃ c ∈ secs, c.head = (headOf i).val ∧ (zoneOf i).val < p.zoneCount ∧ c.cylinder = (p.zones[zoneOf i]).testCylinder ∧
        (p.zones[zoneOf i]).firstSector ≤ c.sector ∧
        c.sector < (p.zones[zoneOf i]).firstSector + (p.zones[zoneOf i]).sectorCount := by
  unfold writeOverlaps Plan.onTestSectors
  cases locate g f f.count <;> simp [and_assoc]

/-- The entries of `l` have lost laid. -/
@[irreducible] def State.clearLaid (s : State) (l : List EntryNo) : State :=
  s.mapEntries fun i e => if i ∈ l then { e with laid := false } else e

theorem clearLaid_entry (l : List EntryNo) (i : EntryNo) :
    (s.clearLaid l).entry i = if i ∈ l then { s.entry i with laid := false } else s.entry i := by
  simp [State.clearLaid]

theorem clearLaid_frame (s : State) (l : List EntryNo) : ∃ v, s.clearLaid l = { s with entries := v } := by
  unfold State.clearLaid; exact ⟨_, rfl⟩

/-- Two states that differ in their maps only, and hold the same entries, are the same. -/
theorem eq_of_entries {x y : State} {v w : Vector Entry 128} (hx : x = { s with entries := v })
    (hy : y = { s with entries := w }) (h : ∀ i, x.entry i = y.entry i) : x = y := by
  subst hx hy
  exact congrArg s.setEntries (entries_ext h)

theorem clearLaid_cons (a : EntryNo) (l : List EntryNo) :
    (s.setEntry a { s.entry a with laid := false }).clearLaid l = s.clearLaid (a :: l) := by
  obtain ⟨v, hv⟩ := clearLaid_frame (s.setEntry a { s.entry a with laid := false }) l
  obtain ⟨w, hw⟩ := clearLaid_frame s (a :: l)
  refine eq_of_entries hv hw fun i => ?_
  rw [clearLaid_entry, clearLaid_entry, State.entry_setEntry]
  by_cases hi : i = a <;> by_cases hl : i ∈ l <;> simp [hi, hl]

theorem clearLaid_isSubject (l : List EntryNo) (i : EntryNo) : (s.clearLaid l).isSubject i = s.isSubject i := by
  obtain ⟨v, hv⟩ := clearLaid_frame s l
  rw [hv]; rfl

/-- While no entry that loses laid is being swept, no sweep ends (R21). -/
theorem foldl_patternLoss (l : List EntryNo) (h : ∀ i ∈ l, s.isSubject i = false) :
    l.foldl State.patternLoss s = s.clearLaid l := by
  induction l generalizing s with
  | nil =>
    obtain ⟨v, hv⟩ := clearLaid_frame s []
    exact eq_of_entries (v := s.entries) rfl hv fun i => by rw [clearLaid_entry]; rfl
  | cons a l ih =>
    have hone : s.patternLoss a = s.setEntry a { s.entry a with laid := false } := by
      have ha := h a List.mem_cons_self
      unfold State.patternLoss
      simp [ha]
    have hrest : ∀ i ∈ l, (s.setEntry a { s.entry a with laid := false }).isSubject i = false :=
      fun i hi => h i (List.mem_cons_of_mem _ hi)
    rw [List.foldl_cons, hone, ← clearLaid_cons, ih hrest]

/-- Where the subject of the running sweep loses laid, its sweep ends at its place in map order (R21, R121). -/
theorem foldl_patternLoss_subject {c : Context} {l : List EntryNo} (hn : l.Nodup) (he : s.engine = some c)
    (hc : c.subject ∈ l) : ∃ l₁ l₂, l = l₁ ++ c.subject :: l₂ ∧ c.subject ∉ l₁ ∧ c.subject ∉ l₂ ∧
      l.foldl State.patternLoss s =
        l₂.foldl State.patternLoss ((s.clearLaid (l₁ ++ [c.subject])).endSweep .abortedPattern) := by
  obtain ⟨l₁, l₂, rfl⟩ := List.append_of_mem hc
  have hd := List.nodup_append.1 hn
  have h1 : c.subject ∉ l₁ := fun h => hd.2.2 _ h _ List.mem_cons_self rfl
  refine ⟨l₁, l₂, rfl, h1, (List.nodup_cons.1 hd.2.1).1, ?_⟩
  have hsub (i : EntryNo) : s.isSubject i = decide (c.subject = i) := by unfold State.isSubject; rw [he]
  have hfirst : l₁.foldl State.patternLoss s = s.clearLaid l₁ :=
    foldl_patternLoss l₁ fun i hi => by rw [hsub]; exact decide_eq_false fun h => h1 (h ▸ hi)
  have hloss : (s.clearLaid l₁).patternLoss c.subject = (s.clearLaid (l₁ ++ [c.subject])).endSweep .abortedPattern := by
    have hv : (s.clearLaid l₁).setEntry c.subject { (s.clearLaid l₁).entry c.subject with laid := false } =
        s.clearLaid (l₁ ++ [c.subject]) := by
      obtain ⟨v, hv⟩ := clearLaid_frame s l₁
      obtain ⟨w, hw⟩ := clearLaid_frame s (l₁ ++ [c.subject])
      refine eq_of_entries (by rw [hv]; rfl) hw fun i => ?_
      rw [State.entry_setEntry, clearLaid_entry, clearLaid_entry, clearLaid_entry]
      by_cases hi : i = c.subject <;> simp [hi, h1]
    have hs : (s.clearLaid (l₁ ++ [c.subject])).isSubject c.subject = true := by
      rw [clearLaid_isSubject, hsub]; exact decide_eq_true rfl
    unfold State.patternLoss
    rw [hv]
    simp only [hs, if_true]
  rw [List.foldl_append, List.foldl_cons, hfirst, hloss]

/-- An ending with RESUME said of one state holds of any state with the same map, queue, log and plan, and of the pins
driven after it. -/
theorem EndsResumed.carry {s s1 t : State} {c c1 : Context} {g : SweepOutcome} (h : EndsResumed s1 t c1 g)
    (k1 : c1.subject = c.subject) (k2 : c1.cause = c.cause) (k3 : c1.points = c.points) (k4 : c1.priorState = c.priorState)
    (k5 : c1.priorCandidate = c.priorCandidate) (a1 : s1.counters = s.counters) (a2 : s1.log = s.log)
    (a3 : s1.nextSeq = s.nextSeq) (a4 : s1.curve = s.curve) (a5 : s1.swmark = s.swmark) (a6 : s1.plan = s.plan)
    (a7 : s1.queue = s.queue) (a8 : ∀ i, s1.entry i = s.entry i) : EndsResumed s t.drivePins c g where
  toEndsUnfitted := h.toEndsUnfitted.carry k1 k2 k3 a1 a2 a3 a4 a5 a6
  restored := by simpa [k1, k4, k5, a8] using h.restored
  resumed hl := by simpa [k1, a7] using h.resumed (by rwa [a7])
  displaced front r hq hl := by simpa [k1, a8] using h.displaced front r (by rwa [a7]) (by rwa [a7])
  othersKept i hi hr := by simpa [a8] using h.othersKept i (by rwa [k1]) fun r hg => by rw [a7] at hg ⊢; exact hr r hg

section
variable {c : Context} {l : List EntryNo} (hn : l.Nodup) (he : s.engine = some c) (hc : c.subject ∈ l)
  (hlen : s.queue.length < 16)
include hn he hc hlen

/-- Under the hold condition a swept entry that loses laid is put back and first in the queue (R21, R93). -/
theorem foldl_patternLoss_resumed (hh : s.holdOn = true) :
    EndsResumed (s.clearLaid l) (l.foldl State.patternLoss s) c .abortedPattern := by
  obtain ⟨l₁, l₂, rfl, h1, h2, hfold⟩ := foldl_patternLoss_subject hn he hc
  obtain ⟨v, hv⟩ := clearLaid_frame s (l₁ ++ [c.subject])
  have hy (i : EntryNo) := clearLaid_entry (s := s) (l₁ ++ [c.subject]) i
  generalize s.clearLaid (l₁ ++ [c.subject]) = y at hfold hv hy
  have hye : y.engine = some c := by rw [hv]; exact he
  have hyq : y.queue = s.queue := by rw [hv]
  have hz : EndsResumed y (y.endSweepNoLook .abortedPattern) c .abortedPattern :=
    endSweepNoLook_resumed y hye (.inl (by rwa [hyq])) (.inr (.inr (.inl rfl)))
  rw [endSweep_of_held y _ (by rw [hv]; exact hh)] at hfold
  have hz' := hz.idle
  generalize y.endSweepNoLook .abortedPattern = z at hfold hz hz'
  rw [foldl_patternLoss l₂ fun i _ => isSubject_of_idle z hz' i] at hfold
  obtain ⟨v', hv'⟩ := clearLaid_frame z l₂
  obtain ⟨w, hw⟩ := clearLaid_frame s (l₁ ++ c.subject :: l₂)
  have hentry (i : EntryNo) := clearLaid_entry (s := z) l₂ i
  rw [hfold]
  have hothers (i : EntryNo) (hi : i ≠ c.subject) : (z.clearLaid l₂).entry i = (s.clearLaid (l₁ ++ c.subject :: l₂)).entry i := by
    rw [hentry, hz.othersKept i hi fun _ _ => .inl (by rwa [hyq]), hy, clearLaid_entry]
    by_cases h : i ∈ l₁ <;> by_cases h' : i ∈ l₂ <;> simp [h, h', hi]
  exact {
    idle := by rw [hv']; exact hz.idle
    marker := by rw [hv', hw]; exact hz.marker.trans (by rw [hv]; rfl)
    blinkOver := by rw [hv']; exact hz.blinkOver
    counted := by rw [hv', hw]; exact hz.counted.trans (by rw [hv])
    record := by rw [hv', hw]; exact hz.record.trans (by rw [hv])
    nextNumber := by rw [hv', hw]; exact hz.nextNumber.trans (by rw [hv])
    curveKept := by rw [hv', hw]; exact hz.curveKept.trans (by rw [hv])
    restored := by rw [hentry, if_neg h2, hz.restored, hy, clearLaid_entry]; simp
    resumed := fun _ => by rw [hv', hw]; exact (hz.resumed (by rwa [hyq])).trans (by rw [hyq])
    displaced := fun _ _ _ h => by rw [hw] at h; exact absurd h (Nat.not_le.2 hlen)
    othersKept := fun i hi _ => hothers i hi }

/-- With the hold condition off its record is taken again at once, and it starts over by laying (R21, R49, R121, R182). -/
theorem foldl_patternLoss_again (hh : s.holdOn = false) (ha : s.active = true) (hs : s.settled (unitOf c.subject) = true)
    (hsc : s.plan.inScope c.subject = true) (hw : ∀ i, (s.entry i).wanted = none) {u : UnitNo}
    (hp : s.port.state = .bench u) : ∃ c', (l.foldl State.patternLoss s).engine = some c' ∧ c'.subject = c.subject ∧
      c'.cause = .resume ∧ c'.phase = .laying ∧ c'.flight = none ∧ c'.priorState = c.priorState ∧
      (l.foldl State.patternLoss s).queue = s.queue ∧
      (l.foldl State.patternLoss s).swmark =
        (if s.plan.swmarkMode = .sweep then ⟨false, some (s.now + 2), none⟩ else s.swmark) ∧
      (∀ i, i ≠ c.subject → (l.foldl State.patternLoss s).entry i = (s.clearLaid l).entry i) ∧
      ((l.foldl State.patternLoss s).entry c.subject).state = .measuring ∧
      ((l.foldl State.patternLoss s).entry c.subject).laid = false ∧
      ((l.foldl State.patternLoss s).entry c.subject).lastOutcome = some .abortedPattern := by
  obtain ⟨l₁, l₂, rfl, h1, h2, hfold⟩ := foldl_patternLoss_subject hn he hc
  obtain ⟨v, hv⟩ := clearLaid_frame s (l₁ ++ [c.subject])
  have hy (i : EntryNo) := clearLaid_entry (s := s) (l₁ ++ [c.subject]) i
  generalize s.clearLaid (l₁ ++ [c.subject]) = y at hfold hv hy
  have hye : y.engine = some c := by rw [hv]; exact he
  have hyq : y.queue = s.queue := by rw [hv]
  have hyw (i : EntryNo) : (y.entry i).wanted = none := by rw [hy]; split <;> exact hw i
  have hz : EndsResumed y (y.endSweepNoLook .abortedPattern) c .abortedPattern :=
    endSweepNoLook_resumed y hye (.inl (by rwa [hyq])) (.inr (.inr (.inl rfl)))
  have hzp : (y.endSweepNoLook .abortedPattern).port.state = .bench u := by
    rw [endSweepNoLook_port y _ hye]; exact orphan_bench _ _ (by rw [hv]; exact hp)
  have hzf := endSweepNoLook_frame y .abortedPattern
  unfold State.endSweep at hfold
  rw [hye] at hfold
  dsimp only at hfold
  generalize y.endSweepNoLook .abortedPattern = z at hfold hz hzp hzf
  have hzs : z.plan = s.plan ∧ z.holdOn = s.holdOn ∧ z.active = s.active ∧ z.now = s.now ∧
      z.settled (unitOf c.subject) = s.settled (unitOf c.subject) := by
    obtain ⟨_, _, _, _, _, _, _, _, _, _, rfl⟩ := hzf
    rw [hv]; exact ⟨rfl, rfl, rfl, rfl, rfl⟩
  obtain ⟨hplan, hhold, hact, hnow, hset⟩ := hzs
  have hzothers (i : EntryNo) (hi : i ≠ c.subject) : z.entry i = y.entry i :=
    hz.othersKept i hi fun _ _ => .inl (by rwa [hyq])
  have hzq : z.queue = ⟨c.subject, .resume⟩ :: s.queue := (hz.resumed (by rwa [hyq])).trans (by rw [hyq])
  have hzw (i : EntryNo) : (z.entry i).wanted = none := by
    by_cases hi : i = c.subject
    · rw [hi, hz.restored]; exact hyw _
    · rw [hzothers i hi]; exact hyw i
  have hfit : z.eligible ⟨c.subject, .resume⟩ = true := (eligible_iff _).2
    ⟨by rw [hset]; exact hs, wedgedOn_false z (by rw [hzp]; exact nofun) _, by rw [hplan]; exact hsc⟩
  rw [look_takes true (front := []) hz.idle (by rw [hhold]; exact hh) (by rw [hact]; exact ha) hzq (fun _ hx => nomatch hx)
    hfit, takeRecord_eq true _ hzw] at hfold
  generalize hx : State.setEntry _ _ _ = x at hfold
  have hxe : x.engine = some (z.buildContext ⟨c.subject, .resume⟩) := by rw [← hx]; rfl
  have hxsub (i : EntryNo) (hi : i ∈ l₂) : x.isSubject i = false := by
    unfold State.isSubject
    rw [hxe]
    exact decide_eq_false fun h => h2 (h ▸ hi)
  rw [foldl_patternLoss l₂ hxsub] at hfold
  obtain ⟨v', hv'⟩ := clearLaid_frame x l₂
  have hentry (i : EntryNo) := clearLaid_entry (s := x) l₂ i
  have hsubject : (x.clearLaid l₂).entry c.subject = { z.entry c.subject with state := .measuring, candidate := none } := by
    rw [hentry, if_neg h2, ← hx]; exact State.entry_setEntry_self _ _ _
  have hlaid : (z.entry c.subject).laid = false := by rw [hz.restored, hy]; simp
  rw [hfold]
  refine ⟨z.buildContext ⟨c.subject, .resume⟩, by rw [hv']; exact hxe, rfl, rfl, ?_, rfl, ?_, ?_, ?_, fun i hi => ?_, ?_, ?_,
    ?_⟩
  · simp [State.buildContext, hlaid]
  · show (z.entry c.subject).state = _
    rw [hz.restored]
  · rw [hv']
    have : x.queue = z.queue.erase ⟨c.subject, .resume⟩ := by rw [← hx]; rfl
    exact this.trans (by rw [hzq, List.erase_cons_head])
  · rw [hv']
    have : x.swmark = z.swmarkStart true := by rw [← hx]; rfl
    refine this.trans ?_
    rw [swmarkStart_eq, hplan, hnow, hz.marker]
    split
    · rfl
    · next hm => unfold State.markerAfterEnding; rw [hv]; exact if_neg hm
  · have hxi : x.entry i = z.entry i := by rw [← hx]; exact State.entry_setEntry_ne _ _ hi
    rw [hentry, hxi, hzothers i hi, hy, clearLaid_entry]
    by_cases h : i ∈ l₁ <;> by_cases h' : i ∈ l₂ <;> simp [h, h', hi]
  · rw [hsubject]
  · rw [hsubject]; exact hlaid
  · rw [hsubject, hz.restored]

end

theorem foldl_patternLoss_bench (l : List EntryNo) {u : UnitNo} (h : s.port.state = .bench u) :
    (l.foldl State.patternLoss s).port.state = .bench u :=
  foldl_kept (P := fun s => s.port.state = .bench u) (fun _ i => (benchPortKept u).patternLoss i) l h

/-- Settles O18. -/
theorem writeClearsLaidOfOverlappedEntries : Obligations.WriteClearsLaidOfOverlappedEntries := by
  intro t f s g ha hr hp hf hit
  have hmem (i : EntryNo) : i ∈ allEntries.filter (writeOverlaps s.plan (s.geometry.get f.unit) f) ↔ hit i := by
    rw [List.mem_filter, writeOverlaps_iff]
    exact and_iff_right (mem_allEntries i)
  have hnodup : (allEntries.filter (writeOverlaps s.plan (s.geometry.get f.unit) f)).Nodup :=
    (List.nodup_finRange 128).filter _
  generalize hl : allEntries.filter (writeOverlaps s.plan (s.geometry.get f.unit) f) = l at hmem hnodup
  obtain ⟨b, cp, p, hport, hexec⟩ : ∃ b cp p, p.state = .bench f.unit ∧
      exec (.write t f) s = .next (State.drivePins <| l.foldl State.patternLoss { s.advance t with
        counters := { s.counters with passed := s.counters.passed + 1 }, slot := b, copy := cp, port := p }) :=
    ⟨_, _, _, rfl, by rw [exec_write t f _ ha hr hp hf rfl, hl]⟩
  generalize hx : ({ s.advance t with
    counters := { s.counters with passed := s.counters.passed + 1 }, slot := b, copy := cp, port := p } : State) = x at hexec
  have hxe (i : EntryNo) : x.entry i = s.entry i := by rw [← hx]; rfl
  have hlaid (i : EntryNo) := clearLaid_entry (s := x) l i
  have hbench := foldl_patternLoss_bench (s := x) l (by rw [← hx]; exact hport)
  constructor
  · intro hno
    have hsub : ∀ i ∈ l, x.isSubject i = false := fun i hi => by
      by_contra hsub
      obtain ⟨c, hc, rfl⟩ := (isSubject_iff x).1 (by simpa using hsub)
      exact hno c (by rw [← hx] at hc; exact hc) ((hmem _).1 hi)
    rw [foldl_patternLoss l hsub] at hexec hbench
    obtain ⟨v, hv⟩ := clearLaid_frame x l
    refine ⟨_, hexec, ?_, ?_, ?_, by simpa using hbench, fun i => ⟨fun hi => ?_, fun hi => ?_⟩⟩
    · rw [State.drivePins_queue, hv, ← hx]; rfl
    · rw [State.drivePins_log, hv, ← hx]; rfl
    · rw [State.drivePins_engine, hv, ← hx]; rfl
    · rw [State.drivePins_entry, hlaid, if_pos ((hmem i).2 hi), hxe]
    · rw [State.drivePins_entry, hlaid, if_neg fun h => hi ((hmem i).1 h), hxe]
  · intro c lost he hc hlen hlost hlostE
    have hlostEntry (i : EntryNo) : (x.clearLaid l).entry i = lost.entry i := by
      rw [hlaid]
      by_cases hi : hit i
      · rw [if_pos ((hmem i).2 hi), (hlostE i).1 hi, hxe]
      · rw [if_neg fun h => hi ((hmem i).1 h), (hlostE i).2 hi, hxe]
    have hxeng : x.engine = some c := by rw [← hx]; exact he
    have hxlen : x.queue.length < 16 := by rw [← hx]; exact hlen
    constructor
    · intro hh
      refine ⟨_, hexec, ?_, by simpa using hbench⟩
      obtain ⟨v, hv⟩ := clearLaid_frame x l
      refine (foldl_patternLoss_resumed hnodup hxeng ((hmem _).2 hc) hxlen (by rw [← hx]; exact hh)).carry rfl rfl rfl rfl rfl
        ?_ ?_ ?_ ?_ ?_ ?_ ?_ hlostEntry
      all_goals (rw [hv, hlost, ← hx] <;> try rfl)
    · intro hh hs hsc hw
      obtain ⟨c', h1, h2, h3, h4, h5, h6, h7, h8, h9, h10, h11, h12⟩ := foldl_patternLoss_again hnodup hxeng
        ((hmem _).2 hc) hxlen (by rw [← hx]; exact hh) (by rw [← hx]; exact ha) (by rw [← hx]; exact hs)
        (by rw [← hx]; exact hsc) (fun i => by rw [hxe]; exact hw i) (u := f.unit) (by rw [← hx]; exact hport)
      refine ⟨_, c', hexec, by simpa using h1, h2, h3, h4, h5, h6, ?_, ?_, fun i hi => ?_, by simpa using h10,
        by simpa using h11, by simpa using h12, by simpa using hbench⟩
      · rw [State.drivePins_queue, h7, ← hx]; rfl
      · rw [State.drivePins_swmark, h8, ← hx]; rfl
      · rw [State.drivePins_entry, h9 i hi, hlostEntry]

end Sys2Proof.Machine
end

section
/-! PROOFS. The spindle monitors, the second mark and the timed lines (chapters 1, 8 and 11): O46 to O50. -/
namespace Sys2Proof.Machine

variable {s : State}

theorem sweepReady_of_idle (s : State) (h : s.engine = none) : s.sweepReady = false := by
  unfold State.sweepReady; rw [h]

/-! ### One monitor changed -/

/-- A changed monitor settles no unit that was not settled, unless it goes SETTLED itself. -/
theorem settled_of_monitorSet {u : UnitNo} {m : Monitor} (h : m.state = .settled → (s.monitors.get u).state = .settled)
    (v : UnitNo) : ({ s with monitors := s.monitors.set u m } : State).settled v = true → s.settled v = true := by
  unfold State.settled
  rw [decide_eq_true_eq, decide_eq_true_eq, PerUnit.get_set]
  split
  · next hv => rw [hv]; exact h
  · exact id

/-- A command that changes one monitor, without settling its unit, ends with its pins when nothing was ready to move. -/
theorem finish_of_monitorSet {t : State} {u : UnitNo} {m : Monitor} (hr : s.resting = true)
    (h : m.state = .settled → (s.monitors.get u).state = .settled) (hp : t.presented = s.presented)
    (hs : t.slot = s.slot) (hq : t.port = s.port) (he : t.engine = s.engine) (hh : t.holdOn = s.holdOn)
    (hm : t.monitors = s.monitors.set u m) : t.finish = t.drivePins := by
  refine finish_of_resting t (resting_mono hr hp hs (by rw [hq]) he hh fun c _ hc => ?_)
  refine settled_of_monitorSet h (unitOf c.subject) ?_
  unfold State.settled at *
  rwa [← hm]

/-! ### The stop timer (R145) -/

theorem stopDue_iff (m : Monitor) (now : Nat) : m.stopDue now = true ↔ ∃ e, m.stopTimer = some e ∧ e ≤ now := by
  unfold Monitor.stopDue
  split <;> simp_all

/-- Settles O48. -/
theorem stopTimerDeclaresAStop : Obligations.StopTimerDeclaresAStop := by
  intro t u s hr hother
  constructor
  · intro e he hdue
    have hd : ((s.advance t).monitors.get u).stopDue (s.advance t).now = true := (stopDue_iff _ _).2 ⟨e, he, hdue⟩
    have hx : (s.advance t).stopTimer u = (s.advance t).setMonitors
        (s.monitors.set u (s.monitors.get u).declareStop) := by
      unfold State.stopTimer
      exact (if_pos hd).trans (endSweepOn_of_other _ _ _ fun c hc => .inr (hother c hc))
    refine congrArg Host.Outcome.next ((congrArg State.finish hx).trans ?_)
    exact finish_of_monitorSet (m := (s.monitors.get u).declareStop) hr (fun h => nomatch h) rfl rfl rfl rfl rfl rfl
  · intro hlate
    have hd : ¬ ((s.advance t).monitors.get u).stopDue (s.advance t).now = true := fun h => by
      obtain ⟨e, he, hle⟩ := (stopDue_iff _ _).1 h
      exact absurd hle (Nat.not_le.2 (hlate e he))
    have hx : (s.advance t).stopTimer u = s.advance t := by
      unfold State.stopTimer
      exact if_neg hd
    exact congrArg Host.Outcome.next ((congrArg State.finish hx).trans (finish_of_resting _ hr))

/-! ### Index pulses (R143 to R152) -/

theorem accepts_of_pulse {m : Monitor} {last : Nat} (h : m.lastPulse = some last) (now : Nat) :
    m.accepts now = decide (1000 ≤ now - last) := by
  unfold Monitor.accepts; rw [h]; rfl

/-- Whether an interval is stable against a last period (R144). -/
def steadyInterval (period : Option Nat) (i : Nat) : Bool :=
  period.elim false fun p => decide (i ≤ 2000000 ∧ i ≤ p + p / 128 ∧ p ≤ i + p / 128)

theorem stability_eq (period : Option Nat) (i : Nat) : stability period i =
    if period = none then .untested else if steadyInterval period i then .stable else .unstable := by
  cases period with
  | none => rfl
  | some p =>
    simp [stability, steadyInterval, Config.maxPeriod, Config.stabilityDivisor]
    rfl

/-- The interval of an accepted pulse worked (R144, R145). -/
theorem worked_of_pulse {m : Monitor} {last : Nat} (h : m.lastPulse = some last) (now : Nat) : m.worked now = { m with
    lastPulse := some now
    lastPeriod := some (min 2000000 (now - last))
    stable := if steadyInterval m.lastPeriod (now - last) then min 255 (m.stable + 1) else 0
    stopTimer := some (now + 4 * min 2000000 (now - last)) } := by
  have hp : m.nextPeriod now = some (min 2000000 (now - last)) := by
    unfold Monitor.nextPeriod; rw [h]; rfl
  have hs : m.nextStable now = if steadyInterval m.lastPeriod (now - last) then min 255 (m.stable + 1) else 0 := by
    unfold Monitor.nextStable
    rw [h]
    dsimp only
    rw [stability_eq]
    cases hl : m.lastPeriod with
    | none => rfl
    | some p => cases steadyInterval (some p) (now - last) <;> rfl
  unfold Monitor.worked
  rw [hp, hs]
  rfl

theorem stabilityTest_iff {m : Monitor} {last : Nat} (h : m.lastPulse = some last) (now : Nat) :
    m.test now = .unstable ↔ m.lastPeriod ≠ none ∧ steadyInterval m.lastPeriod (now - last) = false := by
  unfold Monitor.test
  rw [h]
  dsimp only
  rw [stability_eq]
  cases m.lastPeriod <;> simp

/-- A pulse that brings no unit to SETTLED and ends no sweep changes its monitor only. -/
theorem pulse_monitor (s : State) (u : UnitNo) {m : Monitor} {r : PulseResult}
    (ha : (s.monitors.get u).accepts s.now = true) (hm : (s.monitors.get u).pulse s.now s.plan.settleCount = (m, r))
    (hq : r = .quiet ∨ r = .unsettles ∧ ∀ c, s.engine = some c → unitOf c.subject ≠ u) :
    s.pulse u = s.setMonitors (s.monitors.set u m) := by
  unfold State.pulse
  dsimp only
  rw [if_pos ha, hm]
  rcases hq with rfl | ⟨rfl, ho⟩
  · rfl
  · exact endSweepOn_of_other _ _ _ fun c hc => .inr (ho c hc)

/-- So the command changes that monitor, and the pulse is passed to the bench (R41). -/
theorem exec_indexPulse_monitor (t : Nat) (u : UnitNo) (hr : s.resting = true) {m : Monitor} {r : PulseResult}
    (ha : (s.monitors.get u).accepts (max s.now t) = true)
    (hm : (s.monitors.get u).pulse (max s.now t) s.plan.settleCount = (m, r))
    (hq : r = .quiet ∨ r = .unsettles ∧ ∀ c, s.engine = some c → unitOf c.subject ≠ u)
    (hs : m.state = .settled → (s.monitors.get u).state = .settled) :
    exec (.indexPulse t u) s = .next (State.drivePins
      { s.advance t with indexOut := some (u, max s.now t), monitors := s.monitors.set u m }) := by
  have hx : ({ s.advance t with indexOut := some (u, max s.now t) } : State).pulse u =
      { s.advance t with indexOut := some (u, max s.now t), monitors := s.monitors.set u m } :=
    pulse_monitor _ u ha hm hq
  refine congrArg Host.Outcome.next ((congrArg State.finish hx).trans ?_)
  exact finish_of_monitorSet hr hs rfl rfl rfl rfl rfl rfl

/-- Settles O46. -/
theorem indexPulseIsPassedAndWorked : Obligations.IndexPulseIsPassedAndWorked := by
  intro t u s hr m now answer
  refine ⟨fun last hl hearly => ?_, fun hl hst hlp => ?_, fun last hl hdue => ?_⟩
  · have hx : ({ s.advance t with indexOut := some (u, max s.now t) } : State).pulse u =
        { s.advance t with indexOut := some (u, max s.now t), monitors := s.monitors.set u m } := by
      unfold State.pulse
      refine (if_neg ?_).trans ?_
      · rw [show ((s.advance t).monitors.get u) = m from rfl, accepts_of_pulse hl, decide_eq_true_eq]
        exact fun h => by have : 1000 ≤ now - last := h; omega
      · rw [PerUnit.set_get_self]; rfl
    refine congrArg Host.Outcome.next ((congrArg State.finish hx).trans ?_)
    exact finish_of_monitorSet (s := s) hr id rfl rfl rfl rfl rfl rfl
  · refine exec_indexPulse_monitor t u hr (r := .quiet) ?_ ?_ (.inl rfl) (fun h => nomatch h)
    · show m.accepts now = true
      unfold Monitor.accepts; rw [hl]
    · show m.pulse now _ = _
      have hw : m.worked now = { m with lastPulse := some now, stopTimer := some (now + 500000) } := by
        unfold Monitor.worked Monitor.nextPeriod Monitor.nextStable
        rw [hl, hlp]; rfl
      unfold Monitor.pulse
      rcases hst with h | h <;> rw [h, hw]
  · intro i stable worked
    have hstable : stable = steadyInterval m.lastPeriod i := by
      show (match m.lastPeriod with | none => false | some p => _) = _
      cases m.lastPeriod <;> rfl
    have hacc : m.accepts now = true := by rw [accepts_of_pulse hl]; exact decide_eq_true (by omega)
    have hw : m.worked now = worked := by rw [worked_of_pulse hl, ← hstable]
    refine ⟨?_, fun hst hns hlp hother => ?_, fun hst since hsince hpast => ?_⟩
    · rintro (⟨hst, hlow⟩ | ⟨hst, hok⟩ | ⟨hst, since, hsince, hin⟩)
      · refine exec_indexPulse_monitor t u hr (r := .quiet) hacc ?_ (.inl rfl) id
        show m.pulse now _ = _
        unfold Monitor.pulse
        rw [hst, hw]
        exact if_neg (Nat.not_le.2 hlow)
      · refine exec_indexPulse_monitor t u hr (r := .quiet) hacc ?_ (.inl rfl) id
        show m.pulse now _ = _
        unfold Monitor.pulse
        rw [hst, hw]
        refine if_neg fun h => ?_
        obtain ⟨h1, h2⟩ := (stabilityTest_iff hl now).1 h
        rcases hok with hok | hok
        · rw [hstable, show i = now - last from rfl, h2] at hok; cases hok
        · exact h1 hok
      · refine exec_indexPulse_monitor t u hr (r := .quiet) hacc ?_ (.inl rfl) id
        show m.pulse now _ = _
        unfold Monitor.pulse Monitor.windowPassed
        rw [hst, hw, hsince]
        exact if_neg (by rw [decide_eq_true_eq]; exact Nat.not_lt.2 hin)
    · refine exec_indexPulse_monitor t u hr (r := .unsettles) hacc ?_ (.inr ⟨rfl, hother⟩) (fun h => nomatch h)
      show m.pulse now _ = _
      unfold Monitor.pulse
      rw [hst, hw]
      refine (if_pos ((stabilityTest_iff hl now).2 ⟨hlp, hstable ▸ hns⟩)).trans ?_
      show (_, PulseResult.unsettles) = _
      have : worked.stable = 0 := by show (if stable = true then _ else 0) = 0; rw [hns]; rfl
      rw [← this]
    · refine exec_indexPulse_monitor t u hr (r := .quiet) hacc ?_ (.inl rfl) (fun h => nomatch h)
      show m.pulse now _ = _
      unfold Monitor.pulse Monitor.windowPassed
      rw [hst, hw, hsince]
      exact if_pos (decide_eq_true hpast)

/-! ### Entries that go STALE in map order (R16, R17) -/

/-- A run of requests over the entries that `q` picks, in map order, is what the statements call it (R44). -/
theorem staleInMapOrder_of_asks (p : Plan → EntryNo → Entry → Bool)
    (hp : ∀ pl i e, p pl i e = true → pl.inScope i = true) (cause : Cause) (q : EntryNo → Bool) {x : State}
    {before : EntryNo → Entry} {asks : EntryNo → Bool} (hq : x.queue = s.queue) (he : x.engine = s.engine)
    (hb : ∀ i, x.entry i = before i) (ha : ∀ i, asks i = (q i && p x.plan i (before i))) :
    StaleInMapOrder s ((allEntries.filter q).foldl (State.askIf p (fun _ => .stale) cause) x) before asks cause := by
  obtain ⟨-, hqueue, hentry⟩ := foldl_askIf p (fun _ => .stale) hp cause (allEntries.filter q)
    ((List.nodup_finRange 128).filter q) x
  have hheard : (allEntries.filter q).filter (x.hears p) = s.heard asks := by
    rw [List.filter_filter]
    refine List.filter_congr fun i _ => ?_
    unfold State.hears State.isSubject State.isQueued
    rw [hb, hq, he, ha]
    cases q i <;> simp
  rw [hheard, hq] at hqueue hentry
  refine ⟨hqueue, fun i => ?_⟩
  rw [hentry i, hb i, ha i]
  simp only [List.mem_filter, mem_allEntries, true_and, Bool.and_eq_true]

/-- What the run leaves to its command does not look at the pins. -/
theorem StaleInMapOrder.carry {s t t' : State} {before : EntryNo → Entry} {asks : EntryNo → Bool} {cause : Cause}
    (h : StaleInMapOrder s t before asks cause) (hq : t'.queue = t.queue) (he : ∀ i, t'.entry i = t.entry i) :
    StaleInMapOrder s t' before asks cause :=
  ⟨hq.trans h.requested, fun i => (he i).trans (h.entries i)⟩

/-- A pulse that settles its unit, under the hold condition: the monitor, and the staleness events of the unit when a stop
was remembered (R17, R148). -/
theorem pulse_settles (x : State) (u : UnitNo) {m : Monitor} (hh : x.holdOn = true)
    (ha : (x.monitors.get u).accepts x.now = true)
    (hm : (x.monitors.get u).pulse x.now x.plan.settleCount = (m, .settles)) :
    x.pulse u = ((allEntries.filter fun i => m.stopRemembered && decide (unitOf i = u)).foldl (State.goStale .spinUp)
      (x.setMonitors (x.monitors.set u m))).setMonitors (x.monitors.set u { m with stopRemembered := false }) := by
  unfold State.pulse
  dsimp only
  rw [if_pos ha, hm]
  dsimp only
  cases hr : m.stopRemembered with
  | true =>
    rw [if_pos rfl]
    simp only [Bool.true_and]
    obtain ⟨q, v, hf⟩ := staleness_frame (x.setMonitors (x.monitors.set u m)) u
    rw [show (allEntries.filter fun i => decide (unitOf i = u)).foldl (State.goStale .spinUp)
      (x.setMonitors (x.monitors.set u m)) = (x.setMonitors (x.monitors.set u m)).staleness u from rfl, hf]
    refine (look_of_held _ _ ?_).trans ?_
    · exact hh
    simp only [State.setMonitors, PerUnit.set_set]
  | false =>
    rw [if_neg Bool.false_ne_true]
    simp only [Bool.false_and, List.filter_false, List.foldl_nil]
    refine (look_of_held _ _ ?_).trans ?_
    · exact hh
    rw [show ({ m with stopRemembered := false } : Monitor) = m by rw [← hr]]
    rfl

/-- Settles O47. -/
theorem settlingAfterAStopMakesEntriesStale : Obligations.SettlingAfterAStopMakesEntriesStale := by
  intro t u s last p hr hh he hst hl hp hdue hmax hup hdown hcount asks
  generalize hm : ({ s.monitors.get u with
      state := .settled
      lastPulse := some (max s.now t)
      lastPeriod := some (max s.now t - last)
      stable := min 255 ((s.monitors.get u).stable + 1)
      stopTimer := some (max s.now t + 4 * (max s.now t - last)) } : Monitor) = m
  have hsteady : steadyInterval (s.monitors.get u).lastPeriod (max s.now t - last) = true := by
    rw [hp]; exact decide_eq_true ⟨hmax, hup, hdown⟩
  have hpulse : (s.monitors.get u).pulse (max s.now t) s.plan.settleCount = (m, .settles) := by
    unfold Monitor.pulse
    rw [hst, worked_of_pulse hl, hsteady, Nat.min_eq_right hmax, ← hm]
    exact if_pos hcount
  have hacc : (s.monitors.get u).accepts (max s.now t) = true := by
    rw [accepts_of_pulse hl]; exact decide_eq_true (by omega)
  generalize hz : State.setMonitors { s.advance t with indexOut := some (u, max s.now t) } (s.monitors.set u m) = z
  have hx : State.pulse { s.advance t with indexOut := some (u, max s.now t) } u =
      ((allEntries.filter fun i => m.stopRemembered && decide (unitOf i = u)).foldl (State.goStale .spinUp) z).setMonitors
        (s.monitors.set u { m with stopRemembered := false }) := by
    rw [← hz]
    exact pulse_settles { s.advance t with indexOut := some (u, max s.now t) } u hh hacc hpulse
  have hstale := staleInMapOrder_of_asks (s := s) (x := z) (fun pl i e => pl.inScope i && e.trusted)
    (fun _ _ _ h => (Bool.and_eq_true_iff.1 h).1) .spinUp (fun i => m.stopRemembered && decide (unitOf i = u))
    (before := s.entry) (asks := asks) (by rw [← hz]; rfl) (by rw [← hz]; rfl) (fun i => by rw [← hz]; rfl) (fun i => by
      rw [← hz, ← hm]; exact Bool.and_assoc _ _ _)
  have hfr : SameButQueue z ((allEntries.filter fun i => m.stopRemembered && decide (unitOf i = u)).foldl
      (State.goStale .spinUp) z) := foldl_keeps SameButQueue.refl SameButQueue.trans _ (goStale_frame · .spinUp) _ z
  rw [← goStale_eq] at hstale
  obtain ⟨q, v, hy⟩ := hfr
  generalize (allEntries.filter fun i => m.stopRemembered && decide (unitOf i = u)).foldl (State.goStale .spinUp) z = y
    at hstale hy hx
  have hfin : (y.setMonitors (s.monitors.set u { m with stopRemembered := false })).finish =
      (y.setMonitors (s.monitors.set u { m with stopRemembered := false })).drivePins :=
    finish_of_resting _ (resting_mono hr (by rw [hy, ← hz]; rfl) (by rw [hy, ← hz]; rfl) (by rw [hy, ← hz]; rfl)
      (by rw [hy, ← hz]; rfl) (by rw [hy, ← hz]; rfl) fun c hc => by rw [he] at hc; cases hc)
  refine ⟨(y.setMonitors (s.monitors.set u { m with stopRemembered := false })).drivePins,
    congrArg Host.Outcome.next ((congrArg State.finish hx).trans hfin), hstale.carry rfl fun i => rfl, ?_⟩
  refine congrArg State.drivePins ?_
  rw [hy, ← hz, ← hm]
  rfl

/-- Settles O49. -/
theorem secondMarkAgesTheMap : Obligations.SecondMarkAgesTheMap := by
  intro t s hr hh
  refine ⟨fun hearly => ?_, fun hdue => ?_⟩
  · exact (if_neg (Nat.not_le.2 hearly)).trans (congrArg Host.Outcome.next (finish_of_resting (s.advance t) hr))
  · intro aged asks
    have hexec : exec (.secondMark t) s = .next (s.advance t).markSecond.finish := if_pos hdue
    unfold State.markSecond at hexec
    dsimp only at hexec
    generalize hz : ({ s.advance t with seconds := (s.advance t).seconds + 1 } : State).mapEntries
      (fun _ e => e.older) = z at hexec
    have hzf : ∃ q v, z = { s.advance t with seconds := s.seconds + 1, queue := q, entries := v } := by
      obtain ⟨q, v, h⟩ := mapEntries_frame { s.advance t with seconds := (s.advance t).seconds + 1 } fun _ e => e.older
      exact ⟨q, v, hz.symm.trans h⟩
    have hzq : z.queue = s.queue := by rw [← hz]; simp
    have hze (i : EntryNo) : z.entry i = aged i := by
      rw [← hz, State.entry_mapEntries]
      show (s.entry i).older = _
      unfold Entry.older
      show _ = ({ s.entry i with age := if (s.entry i).centre.isSome then _ else _ } : Entry)
      split <;> rfl
    have hstale := staleInMapOrder_of_asks (s := s) (x := z)
      (fun pl i e => decide (pl.maxAge ≠ 0 ∧ pl.maxAge ≤ e.age) && (pl.inScope i && e.trusted))
      (fun _ _ _ h => (Bool.and_eq_true_iff.1 (Bool.and_eq_true_iff.1 h).2).1) .age (fun _ => true) (asks := asks)
      hzq (by obtain ⟨q, v, h⟩ := hzf; rw [h]; rfl) hze (fun i => by
        rw [show z.plan = s.plan by obtain ⟨q, v, h⟩ := hzf; rw [h]; rfl]
        have : (aged i).state = (s.entry i).state := rfl
        show _ = (true && (_ && (_ && (decide ((aged i).state = _) || decide ((aged i).state = _)))))
        rw [this]
        show (_ && _ && _ && _) = _
        simp only [Bool.true_and, Bool.decide_and]
        cases s.plan.inScope i <;> simp)
    rw [← testAge_eq, List.filter_true] at hstale
    have hfr : SameButQueue z (allEntries.foldl State.testAge z) :=
      foldl_keeps SameButQueue.refl SameButQueue.trans _ testAge_frame _ z
    generalize allEntries.foldl State.testAge z = y at hstale hexec hfr
    have hy : ∃ q v, y = { s.advance t with seconds := s.seconds + 1, queue := q, entries := v } := by
      obtain ⟨q, v, rfl⟩ := hfr
      obtain ⟨q', v', h⟩ := hzf
      exact ⟨q, v, by rw [h]⟩
    obtain ⟨q, v, rfl⟩ := hy
    have hlook := look_of_held
      ({ s.advance t with seconds := s.seconds + 1, queue := q, entries := v } : State) false hh
    have hfin := finish_of_resting ({ s.advance t with seconds := s.seconds + 1, queue := q, entries := v } : State)
      (resting_mono hr rfl rfl rfl rfl rfl fun _ _ h => h)
    refine ⟨_, hexec.trans (congrArg Host.Outcome.next ((congrArg State.finish hlook).trans hfin)),
      hstale.carry rfl fun _ => rfl, rfl⟩

/-! ### The timed lines (R182, R183, R185) -/

theorem holdLine_due_iff (h : HoldLine) (now : Nat) : h.due now = true ↔ ∃ e, h.timer = some e ∧ e ≤ now := by
  unfold HoldLine.due
  split <;> simp_all

/-- Settles O50. -/
theorem linesKeepTheirTimes : Obligations.LinesKeepTheirTimes := by
  constructor
  · intro t s hr
    refine ⟨fun low => ?_, fun hearly => ?_, fun e hl hdue hq he => ?_⟩
    · have hline : s.holdLine.change low (max s.now t) =
          { rawLow := low
            asserted := s.holdLine.asserted
            timer := if low = s.holdLine.asserted then none
              else some (s.holdLine.timer.getD (max s.now t + 20000)) } := by
        unfold HoldLine.change
        split
        · rfl
        · cases s.holdLine.timer <;> rfl
      have hasserted : (s.holdLine.change low (max s.now t)).asserted = s.holdLine.asserted := by rw [hline]
      refine next_of_resting _ _ ?_ (congrArg (fun h => ({ s.advance t with holdLine := h } : State)) hline)
      exact resting_mono hr rfl rfl rfl rfl (congrArg (· || s.planHold) hasserted) fun _ _ h => h
    · have hd : ¬ (s.advance t).holdLine.due (s.advance t).now = true := fun h => by
        obtain ⟨e, he, hle⟩ := (holdLine_due_iff _ _).1 h
        exact absurd hle (Nat.not_le.2 (hearly e he))
      exact (if_neg hd).trans (congrArg Host.Outcome.next (finish_of_resting (s.advance t) hr))
    · have hd : (s.advance t).holdLine.due (s.advance t).now = true := (holdLine_due_iff _ _).2 ⟨e, hl, hdue⟩
      have hx : (s.advance t).holdSettles = { s.advance t with
          holdLine := { s.holdLine with asserted := !s.holdLine.asserted, timer := none } } := by
        unfold State.holdSettles
        dsimp only
        split
        · refine look_of_noneEligible _ _ fun r h => ?_
          have hmem : r ∈ s.queue := h
          rw [hq] at hmem
          cases hmem
        · rfl
      obtain ⟨hp, hb, -⟩ := (resting_iff s).1 hr
      refine (if_pos hd).trans (congrArg Host.Outcome.next ((congrArg State.finish hx).trans ?_))
      refine finish_of_quiet _ hp hb (engineQuiet_of_notReady _ (sweepReady_of_idle _ he))
  · intro t s hr
    have hlines (w : Swmark) (b : Option Blink) : State.resting { s.advance t with swmark := w, blink := b } = true :=
      resting_mono hr rfl rfl rfl rfl rfl fun _ _ h => h
    refine ⟨next_of_resting _ _ (hlines s.swmark _) rfl, next_of_resting _ _ (hlines _ s.blink) ?_,
      next_of_resting _ _ (hlines _ s.blink) ?_⟩
    · refine congrArg (fun w => ({ s.advance t with swmark := w } : State)) ?_
      show s.swmark.endGap (max s.now t) = _
      unfold Swmark.endGap
      cases s.swmark.gapEnd <;> simp
    · refine congrArg (fun w => ({ s.advance t with swmark := w } : State)) ?_
      show s.swmark.endPulse (max s.now t) = _
      unfold Swmark.endPulse
      cases s.swmark.pulseEnd <;> simp

end Sys2Proof.Machine
end

section
/-! PROOFS. The reference pattern and the comparator (R53, R55, R60, R98), and where an opening lies (R77 to R82): O36, O54
and O59. -/
namespace Sys2Proof.Machine

variable {s : State}

/-! ### Differing bits (R60) -/

/-- The bit positions at which two byte strings differ, over the length of the shorter. -/
def differingPlaces (x y : List Byte) : List Nat :=
  (List.range (8 * min x.length y.length)).filter fun p =>
    (x.getD (p / 8) 0).getLsbD (p % 8) != (y.getD (p / 8) 0).getLsbD (p % 8)

theorem popCount_xor (a b : Byte) :
    popCount (a ^^^ b) = ((List.range 8).filter fun i => a.getLsbD i != b.getLsbD i).length := by
  unfold popCount
  refine congrArg List.length (List.filter_congr fun i _ => ?_)
  rw [BitVec.getLsbD_xor]

theorem differingBits_eq (x y : List Byte) : differingBits x y = (differingPlaces x y).length := by
  induction x generalizing y with
  | nil => simp [differingBits, differingPlaces]
  | cons a x ih =>
    cases y with
    | nil => simp [differingBits, differingPlaces]
    | cons b y =>
      have hlen : 8 * min (a :: x).length (b :: y).length = 8 + 8 * min x.length y.length := by
        simp only [List.length_cons]; omega
      have hsplit : differingPlaces (a :: x) (b :: y) =
          ((List.range 8).filter fun i => a.getLsbD i != b.getLsbD i) ++ (differingPlaces x y).map (8 + ·) := by
        unfold differingPlaces
        rw [hlen, List.range_add, List.filter_append, List.filter_map]
        refine congrArg₂ (· ++ ·) (List.filter_congr fun i hi => ?_) (congrArg _ (List.filter_congr fun i _ => ?_))
        · have h8 : i < 8 := List.mem_range.1 hi
          rw [Nat.div_eq_of_lt h8, Nat.mod_eq_of_lt h8]
          rfl
        · simp only [Function.comp]
          rw [show (8 + i) / 8 = i / 8 + 1 by omega, show (8 + i) % 8 = i % 8 by omega]
          rfl
      rw [hsplit, List.length_append, List.length_map, ← popCount_xor, ← ih]
      rfl

theorem differingBits_le (x y : List Byte) : differingBits x y ≤ 8 * min x.length y.length := by
  rw [differingBits_eq]
  exact (List.length_filter_le _ _).trans (by rw [List.length_range])

theorem differingBits_self (x : List Byte) : differingBits x x = 0 := by
  rw [differingBits_eq, List.length_eq_zero_iff]
  exact List.filter_eq_nil_iff.2 fun _ _ => by simp

/-! ### The comparator (R60, R98) -/

/-- Settles O36. -/
theorem comparatorCountsDifferingBits : Obligations.ComparatorCountsDifferingBits := by
  refine ⟨fun t bytes s c task i d n he hf hr ha hp => ?_, fun t bytes s u lay e n d hst ht hop ha hp => ?_,
    fun x y => differingBits_eq x y, fun bytes pn n h c => ?_⟩
  · have hrun : ((s.advance t).driveAnswers && (s.advance t).port.state.runningTask) = true :=
      Bool.and_eq_true_iff.2 ⟨ha, hr⟩
    have hexec : exec (.comparatorSector t bytes) s = .next ((s.advance t).setEngine
        (some { c with flight := some (c.compare ⟨task, .point i, d, n⟩ bytes) })).finish := by
      refine (if_pos hrun).trans ?_
      show (match s.engine with | some c => _ | none => _) = _
      rw [he]
      dsimp only
      rw [hf]
    refine hexec.trans (next_of_held _ _ hp ?_ rfl)
    show s.port.state.isFree = false
    revert hr
    cases s.port.state <;> simp [PortState.runningTask, PortState.isFree]
  · have hstray : (s.advance t).strayPointTask = true := by
      unfold State.strayPointTask
      rcases hst with h | h | h <;> simp [h, ht, hop]
    have hnot : ¬ ((s.advance t).driveAnswers && (s.advance t).port.state.runningTask) = true := by
      rcases hst with h | h | h <;> simp [h, PortState.runningTask]
    have hheld : (s.advance t).port.state.isFree = false := by
      rcases hst with h | h | h <;> simp [h, PortState.isFree]
    exact (if_neg hnot).trans ((if_pos (Bool.and_eq_true_iff.2 ⟨ha, hstray⟩)).trans
      (congrArg Host.Outcome.next (finish_of_held _ hp hheld)))
  · refine (differingBits_le _ _).trans ?_
    have : (bytes.take 512).length ≤ 512 := List.length_take_le 512 bytes
    omega

/-! ### The reference pattern (R53, R55, R98) -/

section
variable (pn n h c : Nat)

theorem patternSector_length : (patternSector pn n h c).length = 512 := by
  unfold patternSector
  rw [length_flatMap _ 2 fun _ => rfl, List.length_range]

theorem patternSector_word {k : Nat} (hk : k < 256) :
    wordAt (patternSector pn n h c) (2 * k) = patternWord pn n h c k := by
  have hget : (List.range 256)[k]? = some k := List.getElem?_range hk
  have hbyte (r : Nat) (hr : r < 2) :
      byteAt (patternSector pn n h c) (2 * k + r) = byteAt (le16 (patternWord pn n h c k)) r :=
    byteAt_flatMap _ 2 (fun _ => rfl) _ k r k hget hr
  have h0 := hbyte 0 (by omega)
  have h1 := hbyte 1 (by omega)
  unfold wordAt
  rw [Nat.add_zero] at h0
  rw [h0, h1]
  refine (le16_value _).trans (Nat.mod_eq_of_lt (Nat.mod_lt _ (by omega)))

theorem patternWord_next (k : Nat) : patternWord pn n h c k ≠ patternWord pn n h c (k + 1) := by
  unfold patternWord; omega

end

theorem laySupply_sector (l : LaySupply) (q : Nat) :
    (q < l.sectorCount →
      l.sector q = some (patternSector l.pattern (l.firstSector + q) l.head.val l.cylinder)) ∧
    (l.sectorCount ≤ q → l.sector q = none) :=
  ⟨fun h => if_pos h, fun h => if_neg (Nat.not_lt.2 h)⟩

/-- Settles O54. -/
theorem patternWordsFollowTheFormula : Obligations.PatternWordsFollowTheFormula := by
  refine ⟨fun s u e m d n q c task hp ha he hf => ?_, fun s u e m q lay ha hp => ?_, fun pn n h c => ?_⟩
  · have hs : s.laySector q = c.laySupply.sector q := by
      unfold State.laySector
      rw [if_pos ha, hp]
      dsimp only
      rw [he]
      dsimp only
      rw [hf]
    rw [hs]
    exact laySupply_sector c.laySupply q
  · have hs : s.laySector q = lay.sector q := by
      unfold State.laySector
      rw [if_pos ha]
      rcases hp with h | h | h <;> rw [h] <;> rfl
    rw [hs]
    exact laySupply_sector lay q
  · refine ⟨patternSector_length pn n h c, fun k hk => patternSector_word pn n h c hk, fun k hk => ?_, fun check => ?_⟩
    · rw [patternSector_word pn n h c (by omega), patternSector_word pn n h c (by omega)]
      exact patternWord_next pn n h c k
    · have htake : (patternSector pn n h c ++ check).take Config.sectorBytes = patternSector pn n h c :=
        List.take_left' (patternSector_length pn n h c)
      unfold errorCount
      rw [htake, differingBits_self]

/-! ### An opening lies within the offsets (R77 to R82) -/

theorem middle_near (sum : Int) : sum ≤ 8 * middle sum + 4 ∧ 8 * middle sum ≤ sum + 4 := by
  simp only [middle]
  split_ifs <;> omega

section
variable {e : List Nat} {limit step p q : Nat} {offset1 : Int}

theorem lowEdge_bounds (hpass : smoothed e p ≤ limit) (hbelow : ∀ i, i + 1 = p → limit < smoothed e i) :
    4 * offset1 ≤ lowEdge e limit offset1 step p ∧
      lowEdge e limit offset1 step p ≤ 4 * (offset1 + ((p * step : Nat) : Int)) := by
  rw [lowEdge_eq]
  push_cast
  split
  · next hp => simp [hp]
  · next hp =>
    have hd : edgeDisplacement step limit (smoothed e p) (smoothed e (p - 1)) ≤ 4 * step :=
      edgeDisplacement_le hpass (hbelow (p - 1) (by omega))
    have hs : step ≤ p * step := Nat.le_mul_of_pos_left step (by omega)
    have hs' : (step : Int) ≤ p * step := by exact_mod_cast hs
    generalize (p : Int) * step = x at *
    omega

theorem highEdge_bounds (hq : q < e.length) (hpass : smoothed e q ≤ limit)
    (habove : q + 1 < e.length → limit < smoothed e (q + 1)) :
    4 * (offset1 + ((q * step : Nat) : Int)) ≤ highEdge e limit offset1 step q ∧
      highEdge e limit offset1 step q ≤ 4 * (offset1 + (((e.length - 1) * step : Nat) : Int)) := by
  rw [highEdge_eq]
  split
  · next hlast =>
    rw [show e.length - 1 = q by omega]
    push_cast
    omega
  · next hlast =>
    have hd : edgeDisplacement step limit (smoothed e q) (smoothed e (q + 1)) ≤ 4 * step :=
      edgeDisplacement_le hpass (habove (by omega))
    have hs : q * step + step ≤ (e.length - 1) * step := by
      rw [← Nat.succ_mul]
      exact Nat.mul_le_mul_right step (by omega)
    rw [show (q : Int) * step = ((q * step : Nat) : Int) by push_cast; rfl]
    generalize q * step = x at *
    generalize (e.length - 1) * step = y at *
    omega

end

theorem measureOpening_quality (e : List Nat) (limit step minWidth p q : Nat) (offset1 : Int) :
    (measureOpening e limit offset1 step minWidth (p, q)).quality = .valid ↔
      p ≠ 0 ∧ q + 1 ≠ e.length ∧ 4 * minWidth ≤ (measureOpening e limit offset1 step minWidth (p, q)).width := by
  simp only [measureOpening, qualityOf, clipOf_decide]
  by_cases hp : p = 0 <;> by_cases hq : q + 1 = e.length <;> simp [hp, hq]

/-- Settles O59. -/
theorem openingLiesWithinTheOffsets : Obligations.OpeningLiesWithinTheOffsets := by
  intro e limit step minWidth p q offset1 hpq hq hpass hbelow habove o lo hi
  have hhi : hi = offset1 + (((e.length - 1) * step : Nat) : Int) := by push_cast; rfl
  have hlow := lowEdge_bounds (step := step) (offset1 := offset1) (hpass p (le_refl p) hpq) hbelow
  have hhigh := highEdge_bounds (step := step) (offset1 := offset1) hq (hpass q hpq (le_refl q)) habove
  have hstep : p * step ≤ q * step := Nat.mul_le_mul_right step hpq
  have hL : o.edgeL = lowEdge e limit offset1 step p := rfl
  have hR : o.edgeR = highEdge e limit offset1 step q := rfl
  have hw : o.width = (o.edgeR - o.edgeL).toNat := rfl
  have hc : o.centre = middle (o.edgeL + o.edgeR) := rfl
  have hm := middle_near (o.edgeL + o.edgeR)
  have hqual := measureOpening_quality e limit step minWidth p q offset1
  rw [show measureOpening e limit offset1 step minWidth (p, q) = o from rfl] at hqual
  have h0 : p = 0 → o.edgeL = 4 * lo := fun hp => by rw [hL]; unfold lowEdge pointOffset; simp [hp, lo]
  have h1 : q + 1 = e.length → o.edgeR = 4 * hi := fun hlast => by
    rw [hR, hhi, show e.length - 1 = q by omega]
    unfold highEdge pointOffset
    rw [if_pos hlast]
    push_cast
    rfl
  rw [show lo = offset1 from rfl] at *
  rw [← hL] at hlow
  rw [← hR] at hhigh
  generalize p * step = x at *
  generalize q * step = y at *
  generalize (e.length - 1) * step = z at *
  refine ⟨hlow.1, by omega, by omega, by omega, by omega, by omega, h0, h1, hqual.trans ?_⟩
  refine and_congr_right fun _ => and_congr_right fun _ => ?_
  omega

end Sys2Proof.Machine
end

section
/-! PROOFS. The completions and the expiries of sweep tasks (R54, R58, R61, R62, R90, R91, R98, R130, R132, R137 to R140):
O37, O38, O39, O41 to O44. -/
namespace Sys2Proof.Machine

variable {s : State}

/-! ### What a completion leaves to grant -/

/-- The port that a sweep task frees: nothing on the drive side, the abort released, no grace (R132, R138). -/
def State.portVacated (s : State) : Port :=
  { state := .free none, graceRun := s.port.graceRun, abort := false, task := none }

theorem freePort_eq (s : State) : s.freePort none = { s with port := s.portVacated } := rfl

theorem sweepTaskDone_eq {c : Context} (he : s.engine = some c) :
    s.sweepTaskDone = { s with engine := some { c with flight := none }, port := s.portVacated } := by
  unfold State.sweepTaskDone
  rw [he]
  rfl

/-- With no presentation and no bench task asking, a command ends with the engine's grant where it has one coming (R130). -/
theorem finish_letsIn (hp : s.presented = []) (hb : s.benchAsks = none) : s.finish = s.sweepLetIn.drivePins := by
  unfold State.finish
  rw [takePresented_of_none s hp, arbitrate_eq_sweepLetIn s hb]

/-- The engine's grant on a free port (R130, R132, R182). -/
theorem sweepLetIn_of_ready {c : Context} (hf : s.port.state = .free none) (he : s.engine = some c)
    (hr : s.sweepReady = true) : s.sweepLetIn = { s with
      engine := some { c with flight := some c.dueFlight }
      port :=
        { state := .sweep (unitOf c.subject) .running (s.now + c.taskTimeout * 10000) c.taskTimeout
          graceRun := 0
          abort := s.port.abort
          task := some ⟨c.dueFlight.task, s.opensTask (unitOf c.subject)⟩ }
      swmark := if s.plan.swmarkMode = .point ∧ c.phase = .sweeping then ⟨true, none, some (s.now + 10)⟩
        else s.swmark } := by
  unfold State.sweepLetIn
  rw [hf, he]
  exact if_pos hr

theorem sweepReady_iff {c : Context} (he : s.engine = some c) :
    s.sweepReady = true ↔ c.flight = none ∧ s.holdOn = false ∧ s.settled (unitOf c.subject) = true := by
  unfold State.sweepReady
  rw [he]
  simp [and_assoc]

/-- A command that leaves the port FREE ends with the grant to the bench task WAITING in the slot (R8, R130, R131). -/
theorem next_of_granted (x t : State) {b : BenchTask} (hs : x.slot = some b) (hw : b.phase = .waiting)
    (hf : x.port.state = .free none) (ha : x.port.abort = false) (hg : x.port.graceRun = t.port.graceRun)
    (he : ∀ i, x.entry i = t.entry i) (hd : x.driveShows = t.driveShows)
    (hb : (∃ a, b.disp = .apply a) ∨ b.disp = .pass ∧ b.task.op ∉ [Op.write, .spinDown]) :
    (.next x.finish : Result) =
      .next (State.drivePins { x with slot := some { b with phase := .issued }, port := t.portGranted b }) := by
  rw [finish_of_waiting x hs hw hf, grantBench_eq_portGranted x t ha hg he hd hb]

/-! ### A failure of the running sweep (R90, R91) -/

theorem EndsRetried.carry {s s1 t : State} {c c1 : Context} {g : SweepOutcome} (h : EndsRetried s1 t c1 g)
    (k1 : c1.subject = c.subject) (k2 : c1.cause = c.cause) (k3 : c1.points = c.points)
    (k4 : c1.priorState = c.priorState) (k5 : c1.priorCandidate = c.priorCandidate)
    (a1 : s1.counters = s.counters) (a2 : s1.log = s.log) (a3 : s1.nextSeq = s.nextSeq) (a4 : s1.curve = s.curve)
    (a5 : s1.swmark = s.swmark) (a6 : s1.plan = s.plan) (a7 : s1.queue = s.queue) (a8 : ∀ i, s1.entry i = s.entry i) :
    EndsRetried s t.drivePins c g where
  toEndsUnfitted := h.toEndsUnfitted.carry k1 k2 k3 a1 a2 a3 a4 a5 a6
  restored := by rw [← k1, ← k4, ← k5, ← a8]; exact h.restored
  requeued := by rw [← k1, ← a7]; exact h.requeued
  othersKept := fun i hi => (h.othersKept i (k1 ▸ hi)).trans (a8 i)

theorem EndsFailed.carry {s s1 t : State} {c c1 : Context} {g : SweepOutcome} (h : EndsFailed s1 t c1 g)
    (k1 : c1.subject = c.subject) (k2 : c1.cause = c.cause) (k3 : c1.points = c.points)
    (a1 : s1.counters = s.counters) (a2 : s1.log = s.log) (a3 : s1.nextSeq = s.nextSeq) (a4 : s1.curve = s.curve)
    (a5 : s1.swmark = s.swmark) (a6 : s1.plan = s.plan) (a7 : s1.queue = s.queue) (a8 : ∀ i, s1.entry i = s.entry i) :
    EndsFailed s t.drivePins c g where
  toEndsUnfitted := h.toEndsUnfitted.carry k1 k2 k3 a1 a2 a3 a4 a5 a6
  failed := by rw [← k1, ← a8]; exact h.failed
  notRequeued := by rw [← a7]; exact h.notRequeued
  othersKept := fun i hi => (h.othersKept i (k1 ▸ hi)).trans (a8 i)

/-- A failed sweep of context `c` has ended as a first failure or as a second (R90, R91). -/
def EndsFailing (s t : State) (c : Context) (g : SweepOutcome) : Prop :=
  ((s.entry c.subject).retries = 0 → s.plan.inScope c.subject = true → s.isQueued c.subject = false →
      s.queue.length < 16 → EndsRetried s t c g) ∧
    ((s.entry c.subject).retries ≠ 0 → EndsFailed s t c g)

/-- A command whose sweep task is over, under the hold condition, ends its failed sweep and no more; the port stays as it
was left (R90, R91). -/
theorem finish_endsFailing (t : Nat) {c : Context} {p : Port} {g : Ending} (hg : g = .layFailed ∨ g = .timeout)
    (hh : s.holdOn = true) (hb : s.benchAsks = none) (hp : s.presented = []) (hport : p.state.runningTask = false) :
    let x : State := { s.advance t with engine := some { c with flight := none }, port := p }
    EndsFailing s (x.endSweep g).finish c g.outcome ∧ (x.endSweep g).finish.port = p := by
  intro x
  have hend : x.endSweep g = x.endSweepNoLook g := endSweep_of_held x g hh
  have hfin : (x.endSweepNoLook g).finish = (x.endSweepNoLook g).drivePins := finish_endSweepNoLook x g hp hb
  obtain ⟨hfirst, hsecond⟩ := endSweepNoLook_failure x (c := { c with flight := none }) rfl hg
  rw [hend, hfin]
  refine ⟨⟨fun h1 h2 h3 h4 => ?_, fun h1 => ?_⟩, ?_⟩
  · exact (hfirst h1 h2 h3 h4).carry rfl rfl rfl rfl rfl rfl rfl rfl rfl rfl rfl rfl fun _ => rfl
  · exact (hsecond h1).carry rfl rfl rfl rfl rfl rfl rfl rfl rfl rfl fun _ => rfl
  · rw [State.drivePins_port, endSweepNoLook_port x g rfl]
    show p.orphan _ = p
    unfold Port.orphan
    cases hs : p.state with
    | sweep u w e n => cases w <;> simp_all [PortState.runningTask]
    | aborting u w e => cases w <;> simp_all [PortState.runningTask]
    | _ => rfl

/-! ### The lay's completion (R54) -/

theorem exec_layCompletion (t : Nat) (k : Completion) {c : Context} {task : Task} {d n : Nat} (he : s.engine = some c)
    (hf : c.flight = some ⟨task, .lay, d, n⟩) (hp : s.port.state.runningSweep = true) (ha : s.driveAnswers = true) :
    exec (.layCompletion t k) s = .next ((s.advance t).layDone c k.status).finish := by
  have hrun : ((s.advance t).driveAnswers && (s.advance t).port.state.runningSweep) = true :=
    Bool.and_eq_true_iff.2 ⟨ha, hp⟩
  refine (if_pos hrun).trans ?_
  show (match s.engine with | some c => _ | none => _) = _
  rw [he]
  dsimp only
  rw [hf]

/-- Settles O37. -/
theorem layCompletionOpensTheSweep : Obligations.LayCompletionOpensTheSweep := by
  intro t k s c task d n e m u he hf hst ha hh hb hp freed
  have hexec := exec_layCompletion t k he hf (by rw [hst]; rfl) ha
  have hdone : (s.advance t).sweepTaskDone =
      { s.advance t with engine := some { c with flight := none }, port := freed } := sweepTaskDone_eq he
  unfold State.layDone at hexec
  rw [hdone] at hexec
  have hfail (hk : k.status ≠ .good) : ∃ s', exec (.layCompletion t k) s = .next s' ∧
      EndsFailing s s' c .layFailed ∧ s'.port = freed := by
    refine ⟨_, ?_, finish_endsFailing t (g := .layFailed) (.inl rfl) hh hb hp rfl⟩
    rw [hexec]
    cases hk' : k.status with
    | good => exact absurd hk' hk
    | error e => rfl
  refine ⟨fun hk => ?_, fun hk h1 h2 h3 h4 => ?_, fun hk h1 => ?_⟩
  · rw [hexec, hk]
    refine next_of_quiet _ _ ?_ ?_ (engineQuiet_of_notReady _ (sweepReady_of_held _ ?_)) rfl
    · exact hp
    · exact hb
    · exact hh
  · obtain ⟨s', hs, hend, hport⟩ := hfail hk
    exact ⟨s', hs, hend.1 h1 h2 h3 h4, hport⟩
  · obtain ⟨s', hs, hend, hport⟩ := hfail hk
    exact ⟨s', hs, hend.2 h1, hport⟩

/-! ### A point's completion (R58, R61) -/

theorem exec_pointCompletion (t : Nat) (k : Completion) {c : Context} {task : Task} {i d n : Nat}
    (he : s.engine = some c) (hf : c.flight = some ⟨task, .point i, d, n⟩) (hp : s.port.state.runningSweep = true)
    (ha : s.driveAnswers = true) : exec (.pointCompletion t k) s =
      .next ((s.advance t).pointDone c ⟨task, .point i, d, n⟩ i k.status).finish := by
  have hrun : ((s.advance t).driveAnswers && (s.advance t).port.state.runningSweep) = true :=
    Bool.and_eq_true_iff.2 ⟨ha, hp⟩
  refine (if_pos hrun).trans ?_
  show (match s.engine with | some c => _ | none => _) = _
  rw [he]
  dsimp only
  rw [hf]

theorem pointCharge_eq (c : Context) (task : Task) (i d n : Nat) (st : Status) :
    c.pointCharge ⟨task, .point i, d, n⟩ st = if st = .good then n else n + 4096 * (c.sectorCount - d) := by
  cases st <;> rfl

/-- The context once a point task has joined its sum, nothing in flight (R61). -/
def Context.charged (c : Context) (i d n : Nat) (st : Status) : Context :=
  { c with
    flight := none
    sums := c.sums.set i (c.sums.getD i 0 + (if st = .good then n else n + 4096 * (c.sectorCount - d))) }

/-- The cursor on its next position, or on the next pass's first (R58). -/
def Context.stepped (c : Context) : Context :=
  { c with
    position := if c.position + 1 < c.points then c.position + 1 else 0
    pass := if c.position + 1 < c.points then c.pass else c.pass + 1 }

theorem advance_eq_stepped {c : Context} (h : c.position + 1 < c.points ∨ c.pass < c.passes) :
    c.advance = some c.stepped := by
  unfold Context.advance Context.stepped
  by_cases hp : c.position + 1 < c.points
  · simp only [hp, if_true]
  · simp only [hp, if_false, h.resolve_left hp, if_true]

/-- A point's completion that leaves points to sweep: its charge, the cursor, and the port vacated (R58, R61, R132). -/
theorem pointDone_steps (s : State) {c : Context} {task : Task} {i d n : Nat} {st : Status} (he : s.engine = some c)
    (h : c.position + 1 < c.points ∨ c.pass < c.passes) : s.pointDone c ⟨task, .point i, d, n⟩ i st =
      { s with engine := some (c.charged i d n st).stepped, port := s.portVacated } := by
  have hc : ({ c with flight := none, sums := addSum c.sums i (c.pointCharge ⟨task, .point i, d, n⟩ st) } : Context) =
      c.charged i d n st := by unfold Context.charged addSum; rw [pointCharge_eq]
  unfold State.pointDone
  dsimp only
  rw [hc, advance_eq_stepped (c := c.charged i d n st) h, sweepTaskDone_eq he]
  rfl

/-- Settles O38. -/
theorem pointCompletionCountsAndAdvances : Obligations.PointCompletionCountsAndAdvances := by
  intro t k s c task i d n e m u he hf hst ha hleft sums counted
  have hexec := exec_pointCompletion t k he hf (by rw [hst]; rfl) ha
  rw [pointDone_steps (s.advance t) he hleft] at hexec
  refine ⟨fun hh hb hp => ?_, fun b hs hw hb => ?_⟩
  · refine hexec.trans (next_of_quiet _ _ hp hb (engineQuiet_of_notReady _ (sweepReady_of_held _ ?_)) rfl)
    exact hh
  · rw [hexec]
    exact next_of_granted _ (s.advance t) hs hw rfl rfl rfl (fun _ => rfl) rfl hb

/-- Settles O39. -/
theorem nextPointTaskIsGrantedAtOnce : Obligations.NextPointTaskIsGrantedAtOnce := by
  intro t k s c task i d n e m u he hph hf hst ha hh hset hb hp hpos j next
  have hexec := exec_pointCompletion t k he hf (by rw [hst]; rfl) ha
  rw [pointDone_steps (s.advance t) he (.inl hpos)] at hexec
  generalize hc' : (c.charged i d n k.status).stepped = c' at hexec
  have hposition : c'.position = c.position + 1 := by rw [← hc']; exact if_pos hpos
  have hpass : c'.pass = c.pass := by rw [← hc']; exact if_pos hpos
  have hphase : c'.phase = .sweeping := by rw [← hc']; exact hph
  have hsubject : c'.subject = c.subject := by rw [← hc']; rfl
  have hdue : c'.dueFlight = ⟨next, .point j, 0, 0⟩ := by
    unfold Context.dueFlight
    rw [hphase, hposition, hpass]
    rw [← hc']
    rfl
  have hready : State.sweepReady { s.advance t with engine := some c', port := s.portVacated } = true :=
    (sweepReady_iff rfl).2 ⟨by rw [← hc']; rfl, hh, by rw [hsubject]; exact hset⟩
  have hlet := sweepLetIn_of_ready (s := { s.advance t with engine := some c', port := s.portVacated }) rfl rfl hready
  have hfin : State.finish { s.advance t with engine := some c', port := s.portVacated } = _ :=
    (finish_letsIn (s := { s.advance t with engine := some c', port := s.portVacated }) hp hb).trans
      (congrArg State.drivePins hlet)
  refine ⟨_, hexec.trans (congrArg Host.Outcome.next hfin), ?_, ⟨{ c' with flight := some c'.dueFlight }, rfl, ?_,
    hposition, hsubject, hpass⟩, ?_, rfl, rfl, rfl, rfl⟩
  · rw [State.drivePins_port, hdue, hsubject, show c'.taskTimeout = c.taskTimeout by rw [← hc']; rfl]
    rfl
  · rw [hdue]
  · rw [State.drivePins_swmark, hphase]
    simp

/-! ### Tasks that run out of time (R137 to R139) -/

theorem exec_abortingCompletion (t : Nat) (k : Completion) {u : UnitNo} {w : Owner} {e : Nat}
    (hst : s.port.state = .aborting u w e) (ha : s.driveAnswers = true) :
    exec (.abortingCompletion t k) s = .next ((s.advance t).abortingDone w).finish := by
  show (match s.port.state with | .aborting _ w _ => _ | .free _ | .bench _ | .sweep _ _ _ _ | .wedged _ _ => _) = _
  rw [hst]
  exact if_pos ha

theorem exec_taskExpiry (t : Nat) {u : UnitNo} {w : Owner} {e m : Nat} (hst : s.port.state = .sweep u w e m) :
    exec (.taskExpiry t) s =
      .next (if e ≤ max s.now t then (s.advance t).expireTask u w e m else s.advance t).finish := by
  show (match s.port.state with
    | .sweep u w e m => _
    | .free _ | .bench _ | .aborting _ _ _ | .wedged _ _ => _) = _
  rw [hst]
  show (if e ≤ max s.now t then _ else _) = _
  split <;> rfl

theorem exec_secondExpiry (t : Nat) {u : UnitNo} {w : Owner} {e : Nat} (hst : s.port.state = .aborting u w e) :
    exec (.secondExpiry t) s = .next (if e ≤ max s.now t then (s.advance t).wedge u w else s.advance t).finish := by
  show (match s.port.state with | .aborting _ w _ => _ | .free _ | .bench _ | .sweep _ _ _ _ | .wedged _ _ => _) = _
  rw [hst]
  show (if e ≤ max s.now t then _ else _) = _
  split <;> rfl

theorem driveOpened_eq {d : DriveTask} (hd : s.port.task = some d) : s.driveOpened = d.opened := by
  unfold State.driveOpened; rw [hd]

/-- The task of a running sweep is over in ABORTING: the port is vacated and the sweep ends TIMEOUT (R138). -/
theorem abortingDone_running (s : State) {c : Context} (he : s.engine = some c) : s.abortingDone .running =
    State.endSweep { s with engine := some { c with flight := none }, port := s.portVacated } .timeout :=
  congrArg (fun x => State.endSweep x .timeout) (sweepTaskDone_eq he)

/-- The second expiry of a running sweep's task: the port goes WEDGED and the sweep ends TIMEOUT (R139). -/
theorem wedge_running (s : State) {c : Context} (u : UnitNo) (he : s.engine = some c) : s.wedge u .running =
    State.endSweep { s with
      engine := some { c with flight := none }, port := { s.port with state := .wedged u none } } .timeout := by
  unfold State.wedge
  dsimp only
  rw [State.setPort_engine, he]
  rfl

/-- Settles O41. -/
theorem timedOutTaskEndsItsSweep : Obligations.TimedOutTaskEndsItsSweep := by
  intro t k s c u e m d he hh hb hp hd ends
  have hvacated := finish_endsFailing (s := s) t (c := c) (p := s.portVacated) (g := .timeout) (.inr rfl) hh hb hp rfl
  have hwedged := finish_endsFailing (s := s) t (c := c) (p := { s.port with state := .wedged u none }) (g := .timeout)
    (.inr rfl) hh hb hp rfl
  have hdone := abortingDone_running (s.advance t) (c := c) he
  refine ⟨fun hst ha => ?_, fun hst ho hdue => ?_, fun hst hdue => ?_⟩
  · refine ⟨_, (exec_abortingCompletion t k hst ha).trans (by rw [hdone]; rfl), hvacated.1, hvacated.2⟩
  · refine ⟨_, (exec_taskExpiry t hst).trans ?_, hvacated.1, hvacated.2⟩
    have hx : (s.advance t).expireTask u .running e m = (s.advance t).abortingDone .running := by
      unfold State.expireTask
      rw [driveOpened_eq (s := s.advance t) hd, ho]
      rfl
    rw [if_pos hdue, hx, hdone]
    rfl
  · refine ⟨_, (exec_secondExpiry t hst).trans ?_, hwedged.1, hwedged.2⟩
    rw [if_pos hdue, wedge_running (s.advance t) u he]
    rfl

/-- Settles O42. -/
theorem expiriesAbortAndWedge : Obligations.ExpiriesAbortAndWedge := by
  constructor
  · intro t s u w e m d hst hd ho hp
    rw [exec_taskExpiry t hst]
    have hx : (s.advance t).expireTask u w e m = { s.advance t with
        port := { s.port with state := .aborting u w (e + m * 10000), abort := true } } := by
      unfold State.expireTask
      rw [driveOpened_eq (s := s.advance t) hd, ho]
      rfl
    rw [hx]
    split
    · exact congrArg Host.Outcome.next (finish_of_held _ hp rfl)
    · exact congrArg Host.Outcome.next (finish_of_held (s.advance t) hp (congrArg PortState.isFree hst))
  · intro t s u lay e hst hp
    rw [exec_secondExpiry t hst]
    split
    · exact congrArg Host.Outcome.next (finish_of_held _ hp rfl)
    · exact congrArg Host.Outcome.next (finish_of_held (s.advance t) hp (congrArg PortState.isFree hst))

/-! ### Left-over and late completions (R98, R138, R140) -/

/-- The completion of a left-over or a WEDGED task vacates the port and does nothing else (R98, R138, R140). -/
theorem exec_stray (t : Nat) (k : Completion) {u : UnitNo} {lay : Option LaySupply} {e m : Nat}
    (ha : s.driveAnswers = true) {r : Result}
    (hr : .next (State.finish { s.advance t with port := s.portVacated }) = r) :
    (s.port.state = .sweep u (.leftOver lay) e m ∨ s.port.state = .aborting u (.leftOver lay) e →
      exec (.leftOverCompletion t k) s = r) ∧
    (s.port.state = .aborting u (.leftOver lay) e → exec (.abortingCompletion t k) s = r) ∧
    (s.port.state = .wedged u lay → s.queue = [] ∨ s.engine ≠ none → exec (.lateCompletion t k) s = r) := by
  subst hr
  generalize hv : ({ s.advance t with port := s.portVacated } : State) = vacated
  have hfree : (s.advance t).freePort none = vacated := hv
  refine ⟨fun hst => ?_, fun hst => ?_, fun hst hq => ?_⟩
  · have hleft : s.port.state.leftOverTask = true := by rcases hst with h | h <;> rw [h] <;> rfl
    rw [← hfree]
    exact if_pos (Bool.and_eq_true_iff.2 ⟨ha, hleft⟩)
  · rw [← hfree]
    exact exec_abortingCompletion t k hst ha
  · have hlook : vacated.look false = vacated := by
      rcases hq with hq | hq
      · exact look_of_noneEligible _ _ fun r hr => by
          have hmem : r ∈ s.queue := by rw [← hv] at hr; exact hr
          rw [hq] at hmem
          cases hmem
      · obtain ⟨c, hc⟩ := Option.ne_none_iff_exists'.1 hq
        exact look_of_running vacated false (c := c) (by rw [← hv]; exact hc)
    have hexec : exec (.lateCompletion t k) s = .next (vacated.look false).finish := by
      rw [← hfree]
      show (match s.port.state with
        | .wedged _ _ => _
        | .free _ | .bench _ | .sweep _ _ _ _ | .aborting _ _ _ => _) = _
      rw [hst]
      exact if_pos ha
    rw [hexec, hlook]

/-- Settles O43. -/
theorem strayCompletionsOnlyFreeThePort : Obligations.StrayCompletionsOnlyFreeThePort := by
  intro t k s u lay e m ha answers
  refine ⟨fun hb hr hp => exec_stray t k ha ?_, fun b hs hw hb => exec_stray t k ha ?_⟩
  · exact congrArg Host.Outcome.next (finish_of_quiet _ hp hb (engineQuiet_of_notReady _ hr))
  · exact next_of_granted _ (s.advance t) hs hw rfl rfl rfl (fun _ => rfl) rfl hb

/-! ### The end of a grace (R130, R133) -/

theorem endGrace_eq {p : Port} {e : Nat} (h : p.state = .free (some e)) (now : Nat) :
    p.endGrace now = if e ≤ now then { p with state := .free none } else p := by
  unfold Port.endGrace; rw [h]

/-- Settles O44. -/
theorem graceExpiryLetsTheSweepIn : Obligations.GraceExpiryLetsTheSweepIn := by
  intro t s e hst hb hp
  have hexec : exec (.graceExpiry t) s = .next ((s.advance t).setPort (s.port.endGrace (max s.now t))).finish := rfl
  rw [endGrace_eq hst] at hexec
  refine ⟨fun hearly => ?_, fun hdue hr => ?_, fun c hdue hr he => ?_⟩
  · rw [hexec, if_neg (Nat.not_le.2 hearly)]
    exact congrArg Host.Outcome.next (finish_of_quiet (s.advance t) hp hb (engineQuiet_of_grace _ hst))
  · rw [hexec, if_pos hdue]
    exact congrArg Host.Outcome.next (finish_of_quiet _ hp hb (engineQuiet_of_notReady _ hr))
  · rw [if_pos hdue] at hexec
    have hlet := sweepLetIn_of_ready (s := { s.advance t with port := { s.port with state := .free none } }) rfl he hr
    have hfin := (finish_letsIn (s := { s.advance t with port := { s.port with state := .free none } }) hp hb).trans
      (congrArg State.drivePins hlet)
    exact ⟨_, hexec.trans (congrArg Host.Outcome.next hfin), rfl, rfl, rfl, rfl, rfl, rfl, rfl⟩

end Sys2Proof.Machine
end

section
/-! PROOFS. The endings of a sweep: with its fit (R64, R76, R83 to R91, R101 to R103), and from outside (R40, R45, R65 to
R67, R93, R97, R122, R145, R149): O20, O40 and O45. -/
namespace Sys2Proof.Machine

variable {s : State}

/-! ### An ending with a fit -/

/-- What every ending with a fit does to what is not the queue or the subject (R86, R101 to R103, R182, R183). -/
structure EndsFitted (s t : State) (c : Context) (r : FitResult) : Prop where
  idle : t.engine = none
  counted : t.counters = { s.counters with sweepsEnded := s.counters.sweepsEnded + 1 }
  record : t.log = (if s.log.length < 30 then s.log else s.log.tail) ++
    [⟨s.nextSeq, c.subject, c.cause, (Ending.fit r).outcome, c.points, (Ending.fit r).opening⟩]
  nextNumber : t.nextSeq = s.nextSeq + 1
  curve : t.curve = ⟨c.curvePoints, s.nextSeq⟩
  marker : t.swmark = s.markerAfterEnding
  blinkOver : t.blink = none
  othersKept : ∀ i, i ≠ c.subject → t.entry i = s.entry i

theorem requeueSubject_cases (s : State) (i : EntryNo) {o : Option Cause} (h : o = none ∨ o = some .retry) :
    s.requeueSubject i o = s ∨ s.requeueSubject i o = s.request i .retry := by
  rcases h with rfl | rfl
  · exact .inl rfl
  · exact .inr rfl

theorem requeue_of_fit (r : FitResult) (e : Entry) :
    (Ending.fit r).requeue e = none ∨ (Ending.fit r).requeue e = some .retry := by
  cases r with
  | noOpening => unfold Ending.requeue; dsimp only; split <;> simp
  | found o f => cases f <;> simp [Ending.requeue]

theorem endSweepNoLook_fitted (s : State) {c : Context} (r : FitResult) (he : s.engine = some c) :
    EndsFitted s (s.endSweepNoLook (.fit r)) c r := by
  rw [endSweepNoLook_of_running s _ he]
  have hlog := appendLog_eq s.log
    ⟨s.nextSeq, c.subject, c.cause, (Ending.fit r).outcome, c.points, (Ending.fit r).opening⟩
  obtain ⟨q, v, hf⟩ := requeueSubject_frame (s.settleEnding c (.fit r)) c.subject
    ((Ending.fit r).requeue (s.entry c.subject))
  have hothers (i : EntryNo) (hi : i ≠ c.subject) : ((s.settleEnding c (.fit r)).requeueSubject c.subject
      ((Ending.fit r).requeue (s.entry c.subject))).entry i = s.entry i := by
    have hsettled := (settleEnding_entry s c (.fit r) i).trans (if_neg hi)
    rcases requeueSubject_cases (s.settleEnding c (.fit r)) c.subject (requeue_of_fit r (s.entry c.subject)) with h | h
    · rw [h]; exact hsettled
    · rw [h, request_entry_ne _ _ hi]; exact hsettled
  rw [hf] at hothers ⊢
  exact ⟨rfl, rfl, hlog, rfl, rfl, swmarkStop_eq s, rfl, hothers⟩

/-- An ending that asks for nothing leaves the queue, and its subject ended (R95). -/
theorem endSweepNoLook_notRequeued (s : State) {c : Context} {g : Ending} (he : s.engine = some c)
    (hg : g.requeue (s.entry c.subject) = none) : (s.endSweepNoLook g).queue = s.queue ∧
      (s.endSweepNoLook g).entry c.subject = (s.entry c.subject).ended c g := by
  rw [endSweepNoLook_of_running s _ he, hg]
  exact ⟨rfl, (settleEnding_entry s c g c.subject).trans (if_pos rfl)⟩

/-- An ending that asks for a retry, with room in the queue: the record at its tail, the subject ended and not wanted
(R44, R95). -/
theorem endSweepNoLook_requeued (s : State) {c : Context} {g : Ending} (he : s.engine = some c)
    (hg : g.requeue (s.entry c.subject) = some .retry) (hs : s.plan.inScope c.subject = true)
    (hq : s.isQueued c.subject = false) (hl : s.queue.length < 16) :
    (s.endSweepNoLook g).queue = s.queue ++ [⟨c.subject, .retry⟩] ∧
      (s.endSweepNoLook g).entry c.subject = { (s.entry c.subject).ended c g with wanted := none } := by
  rw [endSweepNoLook_of_running s _ he, hg,
    show (s.settleEnding c g).requeueSubject c.subject (some .retry) = (s.settleEnding c g).request c.subject .retry
      from rfl, request_of_room (s.settleEnding c g) .retry hs rfl hq hl]
  refine ⟨rfl, ?_⟩
  rw [State.entry_setEntry_self, settleEnding_entry, if_pos rfl]

/-- The last point's completion: the curve is complete, the port vacated, and the sweep ends with its fit (R61, R64). -/
theorem pointDone_ends (s : State) {c : Context} {task : Task} {i d n : Nat} {st : Status} (he : s.engine = some c)
    (h1 : c.points ≤ c.position + 1) (h2 : c.passes ≤ c.pass) : s.pointDone c ⟨task, .point i, d, n⟩ i st =
      State.endSweep { s with engine := some (c.charged i d n st), port := s.portVacated }
        (.fit (c.charged i d n st).fit) := by
  have hc : ({ c with flight := none, sums := addSum c.sums i (c.pointCharge ⟨task, .point i, d, n⟩ st) } : Context) =
      c.charged i d n st := by unfold Context.charged addSum; rw [pointCharge_eq]
  have hadv : (c.charged i d n st).advance = none := by
    unfold Context.advance
    rw [if_neg, if_neg]
    · exact Nat.not_lt.2 h2
    · exact Nat.not_lt.2 h1
  unfold State.pointDone
  dsimp only
  rw [hc, hadv, sweepTaskDone_eq he]
  rfl

/-- The last point's completion under the hold condition, before the work that ends the command. -/
theorem exec_lastPoint (t : Nat) (k : Completion) {c : Context} {task : Task} {i d n e m : Nat} {u : UnitNo}
    (he : s.engine = some c) (hf : c.flight = some ⟨task, .point i, d, n⟩) (hst : s.port.state = .sweep u .running e m)
    (ha : s.driveAnswers = true) (hh : s.holdOn = true) (h1 : c.points ≤ c.position + 1) (h2 : c.passes ≤ c.pass) :
    exec (.pointCompletion t k) s = .next (State.finish (State.endSweepNoLook
      { s.advance t with engine := some (c.charged i d n k.status), port := s.portVacated }
      (.fit (c.charged i d n k.status).fit))) := by
  rw [exec_pointCompletion t k he hf (by rw [hst]; rfl) ha, pointDone_ends (s.advance t) he h1 h2]
  exact congrArg (fun x => Host.Outcome.next (State.finish x)) (endSweep_of_held _ _ hh)

/-- Settles O40. -/
theorem lastPointEndsTheSweepWithItsFit : Obligations.LastPointEndsTheSweepWithItsFit := by
  intro t k s c task i d n e m u he hf hst ha hh hb hp h1 h2 sums fit before named ends
  have hexec := exec_lastPoint t k he hf hst ha hh h1 h2
  generalize hc' : c.charged i d n k.status = c' at hexec
  have hfit : fit = c'.fit := by rw [← hc']; rfl
  have hsubject : c'.subject = c.subject := by rw [← hc']; rfl
  generalize hx : ({ s.advance t with engine := some c', port := s.portVacated } : State) = x at hexec
  have hxe : x.engine = some c' := by rw [← hx]
  have hfin := finish_endSweepNoLook x (.fit c'.fit) (by rw [← hx]; exact hp) (by rw [← hx]; exact hb)
  rw [hfin] at hexec
  have hended := endSweepNoLook_fitted x c'.fit hxe
  have hport := endSweepNoLook_port x (.fit c'.fit) hxe
  have hxentry (a : EntryNo) : x.entry a = s.entry a := by rw [← hx]; rfl
  have hends (outcome : SweepOutcome) (opening : Option Opening) (ho : (Ending.fit c'.fit).outcome = outcome)
      (hop : (Ending.fit c'.fit).opening = opening) : ends (x.endSweepNoLook (.fit c'.fit)).drivePins outcome opening := by
    obtain ⟨e1, e2, e3, e4, e5, e6, e7, e8⟩ := hended
    rw [ho, hop] at e3
    refine ⟨e1, e2.trans (by rw [← hx]; rfl), e3.trans (by rw [← hx, ← hc']; rfl), e4.trans (by rw [← hx]; rfl), ?_, ?_,
      hport.trans (by rw [← hx]; rfl), e6.trans (by rw [← hx]; rfl), e7, fun a ha => ?_⟩
    · rw [State.drivePins_curve, e5, ← hx]; rfl
    · rw [State.drivePins_curve, e5, ← hc']; rfl
    · exact (e8 a (hsubject ▸ ha)).trans (hxentry a)
  have hqueue : x.queue = s.queue := by rw [← hx]; rfl
  have hkept (hg : (Ending.fit c'.fit).requeue (s.entry c.subject) = none) :
      (x.endSweepNoLook (.fit c'.fit)).drivePins.queue = s.queue ∧
        (x.endSweepNoLook (.fit c'.fit)).drivePins.entry c.subject = before.ended c' (.fit c'.fit) := by
    obtain ⟨q, v⟩ := endSweepNoLook_notRequeued x (g := .fit c'.fit) hxe (by rw [hsubject, hxentry]; exact hg)
    rw [hsubject, hxentry] at v
    exact ⟨q.trans hqueue, v⟩
  have hagain (hg : (Ending.fit c'.fit).requeue (s.entry c.subject) = some .retry)
      (hs : s.plan.inScope c.subject = true) (hq : s.isQueued c.subject = false) (hl : s.queue.length < 16) :
      (x.endSweepNoLook (.fit c'.fit)).drivePins.queue = s.queue ++ [⟨c.subject, .retry⟩] ∧
        (x.endSweepNoLook (.fit c'.fit)).drivePins.entry c.subject =
          { before.ended c' (.fit c'.fit) with wanted := none } := by
    obtain ⟨q, v⟩ := endSweepNoLook_requeued x (g := .fit c'.fit) hxe (by rw [hsubject, hxentry]; exact hg)
      (by rw [hsubject, ← hx]; exact hs) (by rw [hsubject, ← hx]; exact hq) (by rw [hqueue]; exact hl)
    rw [hsubject, hxentry] at v
    rw [hsubject, hqueue] at q
    exact ⟨q, v⟩
  refine ⟨fun o f hfound => ?_, fun hnone => ?_⟩
  · rw [hfit] at hfound
    refine ⟨_, hexec, hends _ _ (by rw [hfound]; cases f <;> rfl) (by rw [hfound]; rfl), fun hcommit => ?_, fun hj => ?_,
      fun hj hs hq hl => ?_⟩
    · have hg : (Ending.fit c'.fit).requeue (s.entry c.subject) = none := by
        rw [hfound]; fin_cases hcommit <;> rfl
      refine ⟨(hkept hg).1, (hkept hg).2.trans ?_⟩
      have hq : o.quality.entryState = if o.quality = .valid then .valid else .marginal := by cases o.quality <;> rfl
      rw [hfound, ← hq]
      fin_cases hcommit <;> rfl
    · subst hj
      have hg : (Ending.fit c'.fit).requeue (s.entry c.subject) = none := by rw [hfound]; rfl
      refine ⟨(hkept hg).1, (hkept hg).2.trans ?_⟩
      rw [hfound]; rfl
    · subst hj
      have hg : (Ending.fit c'.fit).requeue (s.entry c.subject) = some .retry := by rw [hfound]; rfl
      refine ⟨(hagain hg hs hq hl).1, (hagain hg hs hq hl).2.trans ?_⟩
      rw [hfound]; rfl
  · rw [hfit] at hnone
    refine ⟨_, hexec, hends _ _ (by rw [hnone]; rfl) (by rw [hnone]; rfl), fun hr hs hq hl => ?_, fun hr => ?_⟩
    · have hg : (Ending.fit c'.fit).requeue (s.entry c.subject) = some .retry := by rw [hnone]; exact if_pos hr
      refine ⟨(hagain hg hs hq hl).1, (hagain hg hs hq hl).2.trans ?_⟩
      have hfail : before.afterFailure c' = { before.restore c' with retries := 1 } := if_pos hr
      rw [hnone, ← hc']
      simp only [Entry.ended, Entry.afterEnding]
      rw [hc', hfail, ← hc']
      rfl
    · have hg : (Ending.fit c'.fit).requeue (s.entry c.subject) = none := by rw [hnone]; exact if_neg hr
      refine ⟨(hkept hg).1, (hkept hg).2.trans ?_⟩
      have hfail : before.afterFailure c' = { before with state := .failed, candidate := none, retries := 0 } := if_neg hr
      rw [hnone]
      simp only [Entry.ended, Entry.afterEnding]
      rw [hfail]
      rfl

/-! ### The grant of an APPLY (R7, R8, R114) -/

/-- Settles O20. -/
theorem applyCarriesTheCentre : Obligations.ApplyCarriesTheCentre := by
  refine ⟨fun op t f s g e hd hr hp hf => ?_, ?_⟩
  · rw [exec_bench_grants s op t f hr hp hf hd nofun, grantBench_apply _ rfl]
    rfl
  · intro t k s c task i d n e m u b a o f he hf hst ha hh h1 h2 hs hw hb sums hfit hcommit
    have hexec := exec_lastPoint t k he hf hst ha hh h1 h2
    generalize hc' : c.charged i d n k.status = c' at hexec
    have hfound : c'.fit = .found o f := by rw [← hc']; exact hfit
    have hsubject : c'.subject = c.subject := by rw [← hc']; rfl
    generalize hx : ({ s.advance t with engine := some c', port := s.portVacated } : State) = x at hexec
    have hxe : x.engine = some c' := by rw [← hx]
    have hport : (x.endSweepNoLook (.fit c'.fit)).port = s.portVacated :=
      (endSweepNoLook_port x (.fit c'.fit) hxe).trans (by rw [← hx]; rfl)
    have hframe : (x.endSweepNoLook (.fit c'.fit)).slot = s.slot ∧
        (x.endSweepNoLook (.fit c'.fit)).driveShows = s.driveShows := by
      obtain ⟨_, _, _, _, _, _, _, _, _, _, hz⟩ := endSweepNoLook_frame x (.fit c'.fit)
      rw [hz, ← hx]
      exact ⟨rfl, rfl⟩
    have hcentre : ((x.endSweepNoLook (.fit c'.fit)).entry c.subject).centre = some o.centre := by
      have hg : (Ending.fit c'.fit).requeue (x.entry c'.subject) = none := by rw [hfound]; fin_cases hcommit <;> rfl
      have hz := (endSweepNoLook_notRequeued x hxe hg).2
      rw [hsubject] at hz
      rw [hz, hfound]
      fin_cases hcommit <;> rfl
    have hothers : a ≠ c.subject → (x.endSweepNoLook (.fit c'.fit)).entry a = s.entry a := fun hne =>
      ((endSweepNoLook_fitted x c'.fit hxe).othersKept a (hsubject ▸ hne)).trans (by rw [← hx]; rfl)
    generalize x.endSweepNoLook (.fit c'.fit) = z at hexec hport hframe hcentre hothers
    rw [next_of_granted z z (hframe.1.trans hs) hw (by rw [hport]; rfl) (by rw [hport]; rfl) rfl (fun _ => rfl) rfl
      (.inl ⟨a, hb⟩)] at hexec
    refine ⟨_, hexec, rfl, hcentre, ?_⟩
    have hoffset : ((z.entry a).centre).getD 0 = if a = c.subject then o.centre else ((s.entry a).centre).getD 0 := by
      split
      · next hsub => rw [hsub, hcentre]; rfl
      · next hne => rw [hothers hne]
    rw [State.drivePins_port]
    unfold State.portGranted State.opensTask
    rw [hport, hb, hframe.2]
    dsimp only
    rw [hoffset]
    rfl

/-! ### Endings from outside (R40, R65, R67, R93, R97, R122, R145, R149) -/

/-- The sweep on unit `u` ends from outside, under the hold condition: without its look. -/
theorem endSweepOn_of_held (s : State) {c : Context} {u : UnitNo} (g : Ending) (he : s.engine = some c)
    (ha : s.active = true) (hu : unitOf c.subject = u) (hh : s.holdOn = true) :
    s.endSweepOn u g = s.endSweepNoLook g := by
  unfold State.endSweepOn
  rw [he]
  exact (if_pos ⟨ha, hu⟩).trans (endSweep_of_held s g hh)

/-- With READY not showing, nothing presented is taken. -/
theorem finish_of_notReady (hr : s.benchReady = false) (hb : s.benchAsks = none) (he : s.engineQuiet = true) :
    s.finish = s.drivePins := by
  rw [State.finish, takePresented_of_notReady s hr, arbitrate_of_quiet s hb he]

/-- What the port keeps of a sweep's task in flight when its sweep ends (R97, R98). -/
theorem orphan_eq (p : Port) (c : Context) : p.orphan c = { p with
    state := match p.state with
      | .sweep u .running e n => .sweep u c.leftOver e n
      | .aborting u .running e => .aborting u c.leftOver e
      | other => other } := by
  unfold Port.orphan
  cases hp : p.state with
  | sweep u w e n => cases w <;> simp [← hp]
  | aborting u w e => cases w <;> simp [← hp]
  | _ => simp [← hp]

/-- A pulse that takes its unit out of SETTLED ends a sweep on it (R149). -/
theorem pulse_unsettles (s : State) (u : UnitNo) {m : Monitor} (ha : (s.monitors.get u).accepts s.now = true)
    (hm : (s.monitors.get u).pulse s.now s.plan.settleCount = (m, .unsettles)) :
    s.pulse u = (s.setMonitors (s.monitors.set u m)).endSweepOn u .abortedSpindle := by
  unfold State.pulse
  dsimp only
  rw [if_pos ha, hm]

/-- What a left-over task keeps is the supply of a lay in flight (R98). -/
theorem leftOver_eq (c : Context) : c.leftOver = .leftOver (match c.flight with
    | some ⟨_, .lay, _, _⟩ => some c.laySupply
    | _ => none) := by
  unfold Context.leftOver
  cases c.flight with
  | none => rfl
  | some f => cases f with | mk a k d n => cases k <;> rfl

/-- The endings from outside. -/
def Ending.Outside (g : Ending) : Prop :=
  g = .abortedSpindle ∨ g = .abortedSpinDown ∨ g = .abortedPattern ∨ g = .abortedReset

section
variable {c : Context} (he : s.engine = some c) (ha : s.active = true) (hh : s.holdOn = true)
  (hroom : s.queue.length < 16 ∨ s.isQueued c.subject = false)

include he hroom in
/-- An ending from outside behind a change of the subject's monitor and of what the command itself brings. -/
theorem endsResumed_of_monitorSet (t : Nat) {x : State} {m : Monitor} {g : Ending} (hg : g.Outside)
    (hx : x = { s.advance t with
      counters := x.counters, indexOut := x.indexOut, slot := x.slot, port := x.port,
      monitors := s.monitors.set (unitOf c.subject) m }) :
    EndsResumed { s with counters := x.counters } (x.endSweepNoLook g).drivePins c g.outcome ∧
      (x.endSweepNoLook g).drivePins.port = x.port.orphan c ∧
      (x.endSweepNoLook g).drivePins.monitors.get (unitOf c.subject) = m := by
  have hxe : x.engine = some c := by rw [hx]; exact he
  have hxroom : x.queue.length < 16 ∨ x.isQueued c.subject = false := by rw [hx]; exact hroom
  refine ⟨?_, endSweepNoLook_port x g hxe, ?_⟩
  · refine (endSweepNoLook_resumed x hxe hxroom hg).carry rfl rfl rfl rfl rfl ?_ ?_ ?_ ?_ ?_ ?_ ?_ fun i => ?_
    all_goals (rw [hx] <;> try rfl)
  · obtain ⟨_, _, _, _, _, _, _, _, _, _, hz⟩ := endSweepNoLook_frame x g
    rw [State.drivePins_monitors, hz, hx]
    exact PerUnit.get_set_self _ _ _

include he hh hroom in
/-- A cable reset ends the sweep, drops the bench task and frees the port (R40, R93). -/
theorem exec_cableReset_ends (t : Nat) : ∃ s', exec (.cableReset t) s = .next s' ∧ EndsResumed s s' c .abortedReset ∧
    s'.slot = none ∧ s'.port = { state := .free none, graceRun := 0, abort := false, task := none } := by
  have hx : (s.advance t).cableResets = (s.advance t).resetBlocks.endSweepNoLook .abortedReset := by
    unfold State.cableResets
    dsimp only
    rw [show (s.advance t).resetBlocks.engine = some c from he]
    exact endSweep_of_held _ _ hh
  have hends := endSweepNoLook_resumed (s.advance t).resetBlocks he hroom (g := .abortedReset) (by simp)
  have hport := endSweepNoLook_port (s.advance t).resetBlocks (c := c) .abortedReset he
  have hframe : ((s.advance t).resetBlocks.endSweepNoLook .abortedReset).slot = none ∧
      ((s.advance t).resetBlocks.endSweepNoLook .abortedReset).cableReset = true := by
    obtain ⟨_, _, _, _, _, _, _, _, _, _, hz⟩ := endSweepNoLook_frame (s.advance t).resetBlocks .abortedReset
    rw [hz]
    exact ⟨rfl, rfl⟩
  have hfin := finish_of_notReady (s := (s.advance t).resetBlocks.endSweepNoLook .abortedReset)
    (by unfold State.benchReady; rw [hframe.2]; simp) (benchAsks_of_none _ hframe.1)
    (engineQuiet_of_notReady _ (sweepReady_of_idle _ hends.idle))
  exact ⟨_, congrArg Host.Outcome.next ((congrArg State.finish hx).trans hfin),
    hends.carry rfl rfl rfl rfl rfl rfl rfl rfl rfl rfl rfl rfl fun _ => rfl, hframe.1, hport⟩

include he ha hh hroom in
/-- A declared stop ends the sweep on its unit (R145). -/
theorem exec_stopTimerExpiry_ends {t e : Nat} (hte : (s.monitors.get (unitOf c.subject)).stopTimer = some e)
    (hdue : e ≤ max s.now t) (hp : s.presented = []) (hb : s.benchAsks = none) :
    ∃ s', exec (.stopTimerExpiry t (unitOf c.subject)) s = .next s' ∧ EndsResumed s s' c .abortedSpindle ∧
      s'.port = s.port.orphan c ∧
      s'.monitors.get (unitOf c.subject) = (s.monitors.get (unitOf c.subject)).declareStop := by
  have hd : ((s.advance t).monitors.get (unitOf c.subject)).stopDue (s.advance t).now = true :=
    (stopDue_iff _ _).2 ⟨e, hte, hdue⟩
  generalize hm : (s.monitors.get (unitOf c.subject)).declareStop = m
  have hx : (s.advance t).stopTimer (unitOf c.subject) =
      ((s.advance t).setMonitors (s.monitors.set (unitOf c.subject) m)).endSweepNoLook .abortedSpindle := by
    unfold State.stopTimer
    rw [← hm]
    exact (if_pos hd).trans (endSweepOn_of_held _ _ he ha rfl hh)
  have hends := endsResumed_of_monitorSet he hroom t
    (x := (s.advance t).setMonitors (s.monitors.set (unitOf c.subject) m)) (g := .abortedSpindle) (.inl rfl) rfl
  have hfin := finish_endSweepNoLook ((s.advance t).setMonitors (s.monitors.set (unitOf c.subject) m)) .abortedSpindle
    hp hb
  exact ⟨_, congrArg Host.Outcome.next ((congrArg State.finish hx).trans hfin), hends⟩

include he ha hh hroom in
/-- An unstable interval ends the sweep on its unit (R149). -/
theorem exec_indexPulse_ends {t last p : Nat} (hst : (s.monitors.get (unitOf c.subject)).state = .settled)
    (hl : (s.monitors.get (unitOf c.subject)).lastPulse = some last)
    (hlp : (s.monitors.get (unitOf c.subject)).lastPeriod = some p) (hacc : last + 1000 ≤ max s.now t)
    (huns : p + p / 128 < max s.now t - last ∨ max s.now t - last + p / 128 < p) (hp : s.presented = [])
    (hb : s.benchAsks = none) :
    ∃ s', exec (.indexPulse t (unitOf c.subject)) s = .next s' ∧ EndsResumed s s' c .abortedSpindle ∧
      s'.port = s.port.orphan c ∧ (s'.monitors.get (unitOf c.subject)).state = .spinningUp := by
  generalize hm : ({ (s.monitors.get (unitOf c.subject)).worked (max s.now t) with state := .spinningUp } : Monitor) = m
  have hsteady : steadyInterval (s.monitors.get (unitOf c.subject)).lastPeriod (max s.now t - last) = false := by
    rw [hlp]
    exact decide_eq_false (by omega)
  have hpulse : (s.monitors.get (unitOf c.subject)).pulse (max s.now t) s.plan.settleCount = (m, .unsettles) := by
    unfold Monitor.pulse
    rw [hst, ← hm]
    exact if_pos ((stabilityTest_iff hl _).2 ⟨by simp [hlp], hsteady⟩)
  have haccepts : (s.monitors.get (unitOf c.subject)).accepts (max s.now t) = true :=
    (accepts_of_pulse hl _).trans (decide_eq_true (by omega))
  have hx : State.pulse { s.advance t with indexOut := some (unitOf c.subject, max s.now t) } (unitOf c.subject) =
      State.endSweepNoLook { s.advance t with
        indexOut := some (unitOf c.subject, max s.now t)
        monitors := s.monitors.set (unitOf c.subject) m } .abortedSpindle :=
    (pulse_unsettles _ (unitOf c.subject) haccepts hpulse).trans (endSweepOn_of_held _ _ he ha rfl hh)
  obtain ⟨hends, hport, hmon⟩ := endsResumed_of_monitorSet he hroom t (x := { s.advance t with
    indexOut := some (unitOf c.subject, max s.now t)
    monitors := s.monitors.set (unitOf c.subject) m }) (g := .abortedSpindle) (.inl rfl) rfl
  have hfin := finish_endSweepNoLook { s.advance t with
    indexOut := some (unitOf c.subject, max s.now t)
    monitors := s.monitors.set (unitOf c.subject) m } .abortedSpindle hp hb
  refine ⟨_, congrArg Host.Outcome.next ((congrArg State.finish hx).trans hfin), hends, hport, ?_⟩
  rw [hmon, ← hm]

include he ha hh hroom in
/-- A SPIN DOWN ends the sweep on its unit at the issue (R122). -/
theorem exec_spinDown_ends {t : Nat} {f : TaskFields} {grace : Option Nat} (hu : f.unit = unitOf c.subject)
    (hr : s.benchReady = true) (hp : s.presented = []) (hf : s.port.state = .free grace) :
    ∃ s', exec (.spinDown t f) s = .next s' ∧
      EndsResumed { s with counters := s.counters.bump .passed } s' c .abortedSpinDown ∧
      s'.port = { s.port with state := .bench f.unit, task := some ⟨⟨.spinDown, f⟩, s.opensTask f.unit⟩ } := by
  have hd : s.dispositionOf ⟨.spinDown, f⟩ = (.pass, .passed) := by
    unfold State.dispositionOf activeDisposition; split <;> rfl
  generalize hm : (s.monitors.get (unitOf c.subject)).spinDown (max s.now t) = m
  have hgrace : s.graceRunAtGrant grace = s.port.graceRun := by
    unfold State.graceRunAtGrant
    rw [sweepReady_of_held s hh, Bool.and_false]
    rfl
  generalize hx : ({ s.advance t with
    counters := s.counters.bump .passed
    slot := some { task := ⟨.spinDown, f⟩, disp := .pass, phase := .issued }
    port := { s.port with
      state := .bench f.unit
      graceRun := s.graceRunAtGrant grace
      task := some ⟨⟨.spinDown, f⟩, s.opensTask f.unit⟩ }
    monitors := s.monitors.set (unitOf c.subject) m } : State) = x
  have hexec : exec (.spinDown t f) s = .next (x.endSweepOn f.unit .abortedSpinDown).drivePins := by
    refine (exec_bench_grants s .spinDown t f hr hp hf hd nofun).trans ?_
    rw [grantBench_pass _ rfl, ← hx, ← hm, ← hu]
    rfl
  rw [endSweepOn_of_held x (c := c) _ (by rw [← hx]; exact he) (by rw [← hx]; exact ha) hu.symm (by rw [← hx]; exact hh)]
    at hexec
  obtain ⟨hends, hport, -⟩ := endsResumed_of_monitorSet he hroom t (x := x) (m := m) (g := .abortedSpinDown)
    (.inr (.inl rfl)) (by rw [← hx])
  have hportEq : x.port.orphan c = { s.port with
      state := .bench f.unit, graceRun := s.graceRunAtGrant grace
      task := some ⟨⟨.spinDown, f⟩, s.opensTask f.unit⟩ } := by rw [← hx]; rfl
  rw [hgrace] at hportEq
  refine ⟨_, hexec, ?_, hport.trans hportEq⟩
  rw [show x.counters = s.counters.bump .passed by rw [← hx]] at hends
  exact hends

end

/-- Settles O45. -/
theorem outsideEventsEndTheSweepWithResume : Obligations.OutsideEventsEndTheSweepWithResume := by
  intro t s c he ha hh hroom kept left
  have hleft : s.port.orphan c = left := by
    rw [orphan_eq, leftOver_eq] <;> rfl
  rw [← hleft]
  refine ⟨exec_cableReset_ends he hh hroom t, fun e hte hdue hp hb => ?_,
    fun last p hst hl hlp hacc huns hp hb => exec_indexPulse_ends he ha hh hroom hst hl hlp hacc huns hp hb,
    fun f grace hu hr hp hf => exec_spinDown_ends he ha hh hroom hu hr hp hf⟩
  obtain ⟨s', hnext, hends, hport, hmon⟩ := exec_stopTimerExpiry_ends he ha hh hroom hte hdue hp hb
  refine ⟨s', hnext, hends, hport, ?_⟩
  rw [hmon]
  exact ⟨rfl, rfl⟩

end Sys2Proof.Machine
end

section
/-! PROOFS. Bench aborts (R38, R115, R124 to R126, R175), cable reset (R40, R141) and what the drive side relays (R24, R25,
R157): O25 to O28. -/
namespace Sys2Proof.Machine

variable {s : State}

/-! ### A task not issued (R26, R124, R175) -/

theorem exec_benchAbort (t : Nat) (moving early : Bool) :
    exec (.benchAbort ⟨t, moving, early⟩) s = .next ((s.advance t).benchAborts moving early).finish := rfl

theorem benchAborts_of_waiting (moving early : Bool) {b : BenchTask} (hs : s.slot = some b) (hp : b.phase = .waiting) :
    s.benchAborts moving early =
      s.setSlot (some { b with phase := .completing (endedInside (s.geometry.get b.task.fields.unit) b.task) }) := by
  unfold State.benchAborts
  rw [hs]
  dsimp only
  rw [hp]

theorem benchAborts_of_issued (moving early : Bool) {b : BenchTask} (hs : s.slot = some b) (hp : b.phase = .issued) :
    s.benchAborts moving early = s.abortIssued b moving := by
  unfold State.benchAborts
  rw [hs]
  dsimp only
  rw [hp]

theorem benchAborts_of_completing (moving early : Bool) {b : BenchTask} {k : Completion} (hs : s.slot = some b)
    (hp : b.phase = .completing k) : s.benchAborts moving early = s.completingAborts b early := by
  unfold State.benchAborts
  rw [hs]
  dsimp only
  rw [hp]

/-- An abort of a completing task does nothing but for a LOCAL VERIFY reached before its record (R26). -/
theorem completingAborts_eq (s : State) {b : BenchTask} {early : Bool}
    (h : early = false ∨ b.task.op ≠ .verify ∨ ∀ l, b.disp ≠ .localAnswer l) : s.completingAborts b early = s := by
  unfold State.completingAborts
  cases hd : b.disp with
  | localAnswer l =>
    refine if_neg fun hc => ?_
    rcases h with h | h | h
    · rw [h] at hc; exact absurd hc.1 Bool.false_ne_true
    · exact h hc.2
    · exact h l hd
  | _ => rfl

/-- A LOCAL answer that an abort ends before a further sector moves (R175). -/
theorem localAborts_still (s : State) (b : BenchTask) (l : List Nat) :
    s.localAborts b l false = s.setSlot (some { b with phase := .completing (s.localAborted b l) }) := rfl

/-- A LOCAL answer that an abort ends while sector `n` moves (R175). -/
theorem localAborts_moving (s : State) (b : BenchTask) {l : List Nat} {n : Nat} (hn : l[b.passed]? = some n) :
    s.localAborts b l true = { s with
      benchData := s.localSector b.task.op n
      slot := some { b with
        passed := b.passed + 1
        phase := .completing
          { status := .error .aborted
            remaining := b.task.fields.count - (b.passed + 1)
            last := ⟨s.straps.service.toNat * 256, 0, n⟩ } } } := by
  have h0 : l.getD b.passed 0 = n := by simp [List.getD, hn]
  have h1 : l.getD b.passed 1 = n := by simp [List.getD, hn]
  have hk : (s.passLocal b.task.op n).localAborted { b with passed := b.passed + 1 } l =
      { status := .error .aborted
        remaining := b.task.fields.count - (b.passed + 1)
        last := ⟨s.straps.service.toNat * 256, 0, n⟩ } := by
    unfold State.localAborted
    rw [if_neg (Nat.succ_ne_zero _)]
    dsimp only
    rw [Nat.add_sub_cancel, h1]
    rfl
  unfold State.localAborts
  simp only [if_true]
  rw [Nat.add_sub_cancel, h0, hk]
  rfl

/-- Settles O25. -/
theorem abortOfATaskNotIssued : Obligations.AbortOfATaskNotIssued := by
  refine ⟨fun t moving early s b hs hp he => ?_, fun t early s b l hs hp hd he => ⟨?_, fun n hn ho => ?_⟩,
    fun t moving s b l k hs hp hd hv hz he => ?_, fun t moving early s hr hend => ?_⟩
  · rw [exec_benchAbort, benchAborts_of_waiting (s := s.advance t) moving early hs hp]
    exact next_of_occupied _ _ rfl (benchAsks_of_phase _ rfl nofun) he rfl
  · rw [exec_benchAbort, benchAborts_of_local s t false early hs hp hd, localAborts_still]
    exact next_of_occupied _ _ rfl (benchAsks_of_phase _ rfl nofun) he rfl
  · rw [exec_benchAbort, benchAborts_of_local s t true early hs hp hd, localAborts_moving (s.advance t) b hn,
      localSector_eq _ _ _ ho]
    exact next_of_occupied _ _ rfl (benchAsks_of_phase _ rfl nofun) he rfl
  · have hx : (s.advance t).completingAborts b true = (s.advance t).localAborts b l false := by
      unfold State.completingAborts
      rw [hd]
      exact if_pos ⟨rfl, hv⟩
    rw [exec_benchAbort, benchAborts_of_completing (s := s.advance t) moving true hs hp, hx, localAborts_still]
    refine next_of_occupied _ _ rfl (benchAsks_of_phase _ rfl nofun) he ?_
    unfold State.localAborted
    rw [if_pos hz, hz]
    rfl
  · have hx : (s.advance t).benchAborts moving early = s.advance t := by
      rcases hend with hs | ⟨b, k, hs, hp, h⟩
      · unfold State.benchAborts
        rw [show (s.advance t).slot = none from hs]
      · rw [benchAborts_of_completing (s := s.advance t) moving early hs hp, completingAborts_eq _ h]
    rw [exec_benchAbort, hx]
    exact congrArg Host.Outcome.next (finish_of_resting (s.advance t) hr)

/-! ### Cable reset (R40, R141) -/

/-- What a unit shows once a cable reset has come (R25, R39). -/
theorem showsAtReset_eq (d : DriveShows) : showsAtReset d = if d = .absent then .absent else .notReady := by
  cases d <;> rfl

theorem cableResets_of_idle (he : s.engine = none) : s.cableResets =
    if (s.wedgedOn 0 || s.wedgedOn 1) = true then s.resetBlocks.look false else s.resetBlocks := by
  unfold State.cableResets
  dsimp only
  rw [show s.resetBlocks.engine = none from he]

/-- During a cable reset nothing presented is taken; an IDLE engine gets no grant. -/
theorem finish_of_reset (hc : s.cableReset = true) (hs : s.slot = none) : s.finish = s.sweepLetIn.drivePins := by
  have hr : s.benchReady = false := by unfold State.benchReady; rw [hc]; simp
  rw [State.finish, takePresented_of_notReady s hr, arbitrate_eq_sweepLetIn s (benchAsks_of_none s hs)]

theorem sweepLetIn_of_idle (he : s.engine = none) : s.sweepLetIn = s := by
  unfold State.sweepLetIn
  rw [he]
  cases s.port.state with
  | free g => cases g <;> rfl
  | _ => rfl

/-- The re-offer changes no entry's state (R46). -/
theorem reoffer_entryState (s : State) (i : EntryNo) : (s.reoffer.entry i).state = (s.entry i).state := by
  refine foldl_keeps (R := fun s t => (t.entry i).state = (s.entry i).state) (fun _ => rfl) (fun h k => k.trans h) _
    (fun s a => ?_) _ s
  unfold State.reofferOne
  split
  · split
    · rw [State.entry_setEntry]
      split
      · next h => rw [h]
      · rfl
    · rfl
  · rfl

theorem takeRecord_measuring (s : State) (b : Bool) (r : QueueRec) :
    ((s.takeRecord b r).entry r.entry).state = .measuring := by
  unfold State.takeRecord
  rw [reoffer_entryState, State.entry_setEntry_self]

/-- Settles O27. -/
theorem cableResetAndItsRelease : Obligations.CableResetAndItsRelease := by
  unfold Obligations.CableResetAndItsRelease
  intro after
  have hshows (d : DriveShows) : showsAtReset d = after d := showsAtReset_eq d
  refine ⟨fun t s he hquiet => ?_, fun t s w lay front back r he hst hh ha hq hfront hset hscope => ?_, fun t s hr => ?_⟩
  · have hlook : (s.advance t).cableResets = (s.advance t).resetBlocks := by
      rw [cableResets_of_idle (s := s.advance t) he]
      rcases hquiet with ⟨h0, h1⟩ | hh | hq
      · refine if_neg ?_
        rw [show (s.advance t).wedgedOn 0 = false from h0, show (s.advance t).wedgedOn 1 = false from h1]
        exact Bool.false_ne_true
      · rw [look_of_held _ _ (show (s.advance t).resetBlocks.holdOn = true from hh), ite_self]
      · have hq' : (s.advance t).resetBlocks.queue = [] := hq
        rw [look_of_noneEligible _ _ (fun r hr => by rw [hq'] at hr; cases hr), ite_self]
    have hexec : exec (.cableReset t) s = .next (s.advance t).cableResets.finish := rfl
    rw [hexec, hlook, finish_of_reset (s := (s.advance t).resetBlocks) rfl rfl,
      sweepLetIn_of_idle (s := (s.advance t).resetBlocks) he]
    unfold State.resetBlocks
    rw [hshows, hshows]
    rfl
  · have hwedged : ((s.advance t).wedgedOn 0 || (s.advance t).wedgedOn 1) = true := by
      unfold State.wedgedOn
      rw [show (s.advance t).port.state = .wedged w lay from hst]
      fin_cases w <;> rfl
    have hexec : exec (.cableReset t) s = .next (s.advance t).cableResets.finish := rfl
    rw [cableResets_of_idle (s := s.advance t) he, if_pos hwedged] at hexec
    generalize hx : (s.advance t).resetBlocks = x at hexec
    have htakes : x.look false = x.takeRecord false r := by
      refine look_takes (s := x) false (by rw [← hx]; exact he) (by rw [← hx]; exact hh) (by rw [← hx]; exact ha)
        (by rw [← hx]; exact hq) (fun y hy => ?_) ?_
      · rw [← Bool.not_eq_true, eligible_iff]
        rintro ⟨h1, -, h3⟩
        rw [← hx] at h1 h3
        rcases hfront y hy with h | h
        · exact Bool.false_ne_true (h.symm.trans h1)
        · exact Bool.false_ne_true (h.symm.trans h3)
      · rw [eligible_iff, ← hx]
        exact ⟨hset, rfl, hscope⟩
    obtain ⟨hslot, hport⟩ := look_slot_port x false
    have hengine : (x.look false).engine = some (x.buildContext r) := by
      rw [htakes]; exact takeRecord_engine x false r
    have hmeasuring : ((x.look false).entry r.entry).state = .measuring := by
      rw [htakes]; exact takeRecord_measuring x false r
    obtain ⟨q, v, c, m, b, hz⟩ := look_frame x false
    generalize x.look false = z at hexec hslot hport hengine hmeasuring hz
    have hready : z.sweepReady = true := (sweepReady_iff hengine).2
      ⟨rfl, by rw [hz, ← hx]; exact hh, by rw [hz, ← hx]; exact hset⟩
    have hfree : z.port.state = .free none := by rw [hport, ← hx]; rfl
    rw [finish_of_reset (by rw [hz, ← hx]; rfl) (by rw [hslot, ← hx]; rfl), sweepLetIn_of_ready hfree hengine hready]
      at hexec
    refine ⟨_, _, (x.buildContext r).dueFlight, hexec, rfl, rfl, rfl, rfl, hmeasuring, by
      rw [State.drivePins_slot]; exact hslot.trans (by rw [← hx]; rfl), ?_⟩
    have hopens : z.opensTask (unitOf r.entry) = decide (s.driveShows.get (unitOf r.entry) = .absent) := by
      unfold State.opensTask
      rw [hz, ← hx]
      show decide ((⟨showsAtReset s.driveShows.u0, showsAtReset s.driveShows.u1⟩ : PerUnit DriveShows).get _ ≠ _) = _
      generalize unitOf r.entry = u
      unfold PerUnit.get
      split
      · cases s.driveShows.u0 <;> rfl
      · cases s.driveShows.u1 <;> rfl
    have hnow : z.now = max s.now t := by rw [hz, ← hx]; rfl
    have habort : z.port.abort = false := by rw [hport, ← hx]; rfl
    have htimeout : (x.buildContext r).taskTimeout = s.plan.taskTimeout := by rw [← hx]; rfl
    rw [State.drivePins_port, hnow, habort, htimeout]
    dsimp only
    rw [show (x.buildContext r).subject = r.entry from rfl, hopens]
  · refine ⟨congrArg Host.Outcome.next (finish_of_resting _ (resting_mono hr rfl rfl rfl rfl rfl fun _ _ h => h)), ?_⟩
    show (!s.interval && !false && s.slot.isNone) = _
    simp

/-! ### What the drive side relays (R24, R25, R38, R157) -/

theorem openFor_eq (p : Port) (u : UnitNo) : p.openFor u = { p with
    task := p.task.map fun d => if d.task.fields.unit = u then { d with opened := true } else d } := by
  obtain ⟨st, g, a, task⟩ := p
  unfold Port.openFor
  cases task with
  | none => rfl
  | some d =>
    dsimp only [Option.map_some]
    split <;> rfl

theorem driveChanges_eq (s : State) (u : UnitNo) (d : DriveShows) : s.driveChanges u d = { s with
    driveShows := s.driveShows.set u d
    port := { s.port with
      task := s.port.task.map fun x =>
        if x.task.fields.unit = u ∧ d ≠ .notReady then { x with opened := true } else x } } := by
  unfold State.driveChanges
  by_cases hd : d = .notReady
  · have hmap : (s.port.task.map fun x : DriveTask =>
        if x.task.fields.unit = u ∧ d ≠ .notReady then { x with opened := true } else x) = s.port.task := by
      cases s.port.task <;> simp [hd]
    rw [hmap]
    exact if_pos hd
  · simp only [hd, ne_eq, not_false_eq_true, and_true, if_false]
    rw [show (s.port.task.map fun x : DriveTask => if x.task.fields.unit = u then { x with opened := true } else x) =
      (s.port.openFor u).task by rw [openFor_eq]]
    show State.setPort { s with driveShows := _ } (s.port.openFor u) = _
    rw [openFor_eq]
    rfl

/-- Settles O28. -/
theorem driveSideIsRelayed : Obligations.DriveSideIsRelayed := by
  refine ⟨fun t c s hr => ?_, fun t bytes s b u hs hp hst ha ho => ?_, fun t bytes s b u hs hp hst ha ho => ?_⟩
  · exact next_of_resting _ _ (by rw [driveChanges_eq]; exact resting_mono hr rfl rfl rfl rfl rfl fun _ _ h => h)
      (driveChanges_eq _ _ _)
  · have hexec : exec (.driveSectorDelivered t bytes) s =
        .next (({ s.advance t with benchData := bytes } : State).setSlot (some { b with passed := b.passed + 1 })).finish := by
      show (match (s.advance t).answeredTask with | some b => _ | none => _) = _
      rw [answeredTask_of_issued s t hs hp ha]
      refine if_pos ?_
      simp only [List.mem_cons, List.not_mem_nil, or_false] at ho
      rcases ho with h | h | h <;> rw [h] <;> rfl
    rw [hexec]
    exact next_of_occupied _ _ rfl (benchAsks_of_phase _ rfl (by simp [hp]))
      (engineQuiet_of_held _ (congrArg PortState.isFree hst)) rfl
  · have hexec : exec (.benchWriteSector t bytes) s =
        .next (if b.handlesSector then (s.advance t).passWritten b bytes else s.advance t).finish := by
      show (match (s.advance t).answeredTask with | some b => _ | none => _) = _
      rw [answeredTask_of_issued s t hs hp ha]
      exact if_pos ho
    refine ⟨fun hh => ?_, fun hab hfin => ?_⟩
    · have hhandles : b.handlesSector = true := by
        unfold BenchTask.handlesSector
        rcases hh with h | h <;> simp [h]
      have hcopy : copyAfter s.copy b bytes =
          if b.disp = .snoop b.passed then ⟨bytes, decide (bytes.length = 512 ∧ b.abort = false)⟩ else s.copy := by
        have hwhole : decide (bytes.length = 512 ∧ b.abort = false) = (decide (bytes.length = 512) && !b.abort) := by
          cases b.abort <;> simp
        unfold copyAfter
        rw [hwhole]
        cases hd : b.disp with
        | snoop place =>
          by_cases hpl : b.passed = place
          · subst hpl
            simp only [if_true]
            rfl
          · simp [hpl, Ne.symm hpl]
        | _ => simp
      rw [hexec, if_pos hhandles, ← hcopy]
      exact next_of_occupied _ _ rfl (benchAsks_of_phase _ rfl (by simp [hp]))
        (engineQuiet_of_held _ (congrArg PortState.isFree hst)) rfl
    · have hnot : ¬ b.handlesSector = true := by
        unfold BenchTask.handlesSector
        simp [hab, hfin]
      rw [hexec, if_neg hnot]
      exact congrArg Host.Outcome.next (finish_of_occupied (s.advance t) hs
        (benchAsks_of_phase (s.advance t) hs (by simp [hp])) (engineQuiet_of_held _ (congrArg PortState.isFree hst)))

end Sys2Proof.Machine
end

section
/-! PROOFS. Completions of bench tasks, and the tasks a bench abort withholds (R12 to R14, R112, R115, R117 to R120, R125,
R126, R131, R133): O26, O29, O30 and O34. -/
namespace Sys2Proof.Machine

variable {s : State}

/-! ### The release of the port -/

theorem releaseBench_eq (s : State) (b : BenchTask) (k : Completion) : s.releaseBench b k =
    { s with slot := some { b with phase := .completing k }, port := s.portFreed s.now } := rfl

/-- With an occupied slot that does not ask, a command ends with the engine's grant where it has one coming (R26, R130). -/
theorem finish_occupied_letsIn {b : BenchTask} (hs : s.slot = some b) (hp : b.phase ≠ .waiting) :
    s.finish = s.sweepLetIn.drivePins := by
  unfold State.finish
  rw [takePresented_of_occupied _ hs, arbitrate_eq_sweepLetIn s (benchAsks_of_phase s hs hp)]

theorem next_of_released (z : State) (b : BenchTask) (k : Completion) :
    (.next (z.releaseBench b k).finish : Result) = .next (z.releaseBench b k).sweepLetIn.drivePins :=
  congrArg Host.Outcome.next (finish_occupied_letsIn (s := z.releaseBench b k) rfl nofun)

theorem exec_benchTaskCompletion (t : Nat) (k : Completion) {b : BenchTask} (hs : s.slot = some b) (hp : b.phase = .issued)
    (ha : s.driveAnswers = true) (hd : b.disp = .pass ∨ (∃ e, b.disp = .apply e) ∨ ∃ n, b.disp = .snoop n) :
    exec (.benchTaskCompletion t k) s =
      .next (((s.advance t).watchCompletion b k).releaseBench b k).sweepLetIn.drivePins := by
  refine Eq.trans ?_ (next_of_released ((s.advance t).watchCompletion b k) b k)
  show (match (s.advance t).answeredTask with | some b => _ | none => _) = _
  rw [answeredTask_of_issued s t hs hp ha]
  dsimp only
  rcases hd with h | ⟨e, h⟩ | ⟨n, h⟩ <;> rw [h] <;> rfl

/-! ### Learning a geometry (R35, R112) -/

theorem watchGeometry_of_error (s : State) (task : Task) {k : Completion} {e : ErrorKind} (h : k.status = .error e) :
    s.watchGeometry task k = s := by
  unfold State.watchGeometry
  dsimp only
  split
  · unfold learnGeometry
    rw [h]
    dsimp only
    rw [PerUnit.set_get_self]
  · rfl

theorem watchGeometry_of_good (s : State) (task : Task) {k : Completion} (h : k.status = .good)
    (ho : task.op = .setGeometry → 1 ≤ task.fields.sectorsOperand ∧ task.fields.sectorsOperand ≤ 255 ∧
      1 ≤ task.fields.headsOperand) : s.watchGeometry task k = { s with
        geometry := if s.active = true ∧ task.op = .setGeometry then
            s.geometry.set task.fields.unit
              (if task.fields.headsOperand ≤ 16 then some ⟨task.fields.headsOperand, task.fields.sectorsOperand⟩ else none)
          else s.geometry } := by
  unfold State.watchGeometry
  dsimp only
  by_cases hc : s.active = true ∧ task.op = .setGeometry
  · obtain ⟨h1, h2, h3⟩ := ho hc.2
    have hl : learnGeometry task.fields k (s.geometry.get task.fields.unit) =
        if task.fields.headsOperand ≤ 16 then some ⟨task.fields.headsOperand, task.fields.sectorsOperand⟩ else none := by
      unfold learnGeometry
      rw [h]
      simp [h1, h2, h3]
    rw [if_pos hc, if_pos hc, hl]
  · rw [if_neg hc, if_neg hc]

/-- Settles O29. -/
theorem passCompletionReachesTheBench : Obligations.PassCompletionReachesTheBench := by
  intro t k s b hs hp hd ha ho
  have hw : (s.advance t).watchCompletion b k = (s.advance t).watchGeometry b.task k := by
    unfold State.watchCompletion; rw [hd]
  rw [exec_benchTaskCompletion t k hs hp ha (.inl hd), hw]
  cases hk : k.status with
  | good =>
    rw [watchGeometry_of_good (s.advance t) b.task hk (ho · hk)]
    refine congrArg (fun x : State => Host.Outcome.next x.sweepLetIn.drivePins) ?_
    simp only [and_true]
    rfl
  | error e =>
    rw [watchGeometry_of_error (s.advance t) b.task hk]
    refine congrArg (fun x : State => Host.Outcome.next x.sweepLetIn.drivePins) ?_
    simp
    rfl

/-! ### Drift evidence without a look (R12 to R14) -/

/-- A drift event, its look aside: the score, and a score at the limit sends the entry STALE to ask for a sweep. -/
def State.driftMark (s : State) (i : EntryNo) (op : Op) (c : Completion) : State :=
  if s.plan.inScope i && (s.entry i).trusted then
    if s.plan.driftLimit ≤ driftAfter op c (s.entry i).drift then
      (s.setEntry i { s.entry i with drift := driftAfter op c (s.entry i).drift, state := .stale }).request i .drift
    else s.setEntry i { s.entry i with drift := driftAfter op c (s.entry i).drift }
  else s

theorem look_of_quiet {s : State} (b : Bool) (h : s.holdOn = true ∨ s.engine ≠ none) : s.look b = s := by
  rcases h with h | h
  · exact look_of_held s b h
  · obtain ⟨c, hc⟩ := Option.ne_none_iff_exists'.1 h
    exact look_of_running s b hc

theorem driftEvent_of_quiet (i : EntryNo) (op : Op) (c : Completion) (h : s.holdOn = true ∨ s.engine ≠ none) :
    s.driftEvent i op c = s.driftMark i op c := by
  unfold State.driftEvent State.driftMark
  split
  · dsimp only
    split
    · refine look_of_quiet false ?_
      obtain ⟨q, v, hr⟩ := request_frame
        (s.setEntry i { s.entry i with drift := driftAfter op c (s.entry i).drift, state := .stale }) i .drift
      rw [hr]
      exact h
    · rfl
  · rfl

theorem request_planHold (s : State) (i : EntryNo) (c : Cause) (held : Bool) :
    ({ s with planHold := held } : State).request i c = { s.request i c with planHold := held } := by
  show (if !s.plan.inScope i then _ else if s.isSubject i then _ else if s.isQueued i then _ else
    if s.queue.length < Config.queueCapacity then _ else _) = _
  unfold State.request
  split_ifs <;> rfl

/-- The plan part of the hold condition does not matter to what a drift event marks. -/
theorem driftMark_planHold (s : State) (i : EntryNo) (op : Op) (c : Completion) (held : Bool) :
    ({ s with planHold := held } : State).driftMark i op c = { s.driftMark i op c with planHold := held } := by
  show (if s.plan.inScope i && (s.entry i).trusted then
    if s.plan.driftLimit ≤ driftAfter op c (s.entry i).drift then _ else _ else _) = _
  unfold State.driftMark
  split_ifs
  · exact request_planHold
      (s.setEntry i { s.entry i with drift := driftAfter op c (s.entry i).drift, state := .stale }) i .drift held
  · rfl
  · rfl

theorem driftMark_evidence (s : State) (i : EntryNo) (op : Op) (c : Completion) :
    DriftEvidence s (s.driftMark i op c) i op c := by
  have hheld : ({ s with planHold := true } : State).holdOn = true := Bool.or_true _
  have h := driftEvent_evidence { s with planHold := true } i op c hheld
  rw [driftEvent_of_quiet i op c (.inl hheld), driftMark_planHold] at h
  exact h.carry rfl rfl rfl rfl rfl rfl rfl rfl rfl

/-- A drift event that starts no sweep: what it changes, and the evidence (R12 to R14). -/
theorem driftEvent_quiet (i : EntryNo) (op : Op) (c : Completion) (h : s.holdOn = true ∨ s.engine ≠ none) :
    SameButQueue s (s.driftEvent i op c) ∧ DriftEvidence s (s.driftEvent i op c) i op c := by
  rw [driftEvent_of_quiet i op c h]
  refine ⟨?_, driftMark_evidence s i op c⟩
  unfold State.driftMark
  split_ifs
  · exact (setEntry_frame _ _ _).trans (request_frame _ _ _)
  · exact setEntry_frame _ _ _
  · exact .refl s

theorem request_centre (s : State) (i : EntryNo) (c : Cause) (a : EntryNo) :
    ((s.request i c).entry a).centre = (s.entry a).centre := by
  by_cases h : a = i
  · subst h
    unfold State.request
    split_ifs
    iterate 3 rfl
    · rw [State.entry_setEntry_self]
    · rw [State.entry_setEntry_self]
  · rw [request_entry_ne s c h]

/-- A drift event that starts no sweep moves no centre. -/
theorem driftEvent_centre (i : EntryNo) (op : Op) (c : Completion) (h : s.holdOn = true ∨ s.engine ≠ none) (a : EntryNo) :
    ((s.driftEvent i op c).entry a).centre = (s.entry a).centre := by
  rw [driftEvent_of_quiet i op c h]
  unfold State.driftMark
  split_ifs
  · rw [request_centre, State.entry_setEntry]
    split
    · next ha => rw [ha]
    · rfl
  · rw [State.entry_setEntry]
    split
    · next ha => rw [ha]
    · rfl
  · rfl

/-- A bench task that ends with a drift event: the entry's evidence, the record on its way and the port freed (R115, R131). -/
theorem driftEvent_released (t : Nat) (b : BenchTask) (i : EntryNo) (op : Op) (c k : Completion)
    (h : s.holdOn = true ∨ s.engine ≠ none) :
    let x := ((s.advance t).driftEvent i op c).releaseBench b k
    DriftEvidence s x i op c ∧ x = { s.advance t with
      slot := some { b with phase := .completing k }
      port := s.portFreed (max s.now t)
      queue := x.queue
      entries := x.entries } := by
  intro x
  obtain ⟨⟨q, v, hf⟩, he⟩ := driftEvent_quiet (s := s.advance t) i op c h
  have hx : x = { s.advance t with
      slot := some { b with phase := .completing k }, port := s.portFreed (max s.now t), queue := q, entries := v } := by
    show ((s.advance t).driftEvent i op c).releaseBench b k = _
    rw [hf]; rfl
  rw [hf] at he
  refine ⟨?_, ?_⟩
  · rw [hx]
    exact he.carry rfl rfl rfl rfl rfl rfl rfl rfl rfl
  · rw [hx]

/-- Settles O30. -/
theorem applyCompletionIsDriftEvidence : Obligations.ApplyCompletionIsDriftEvidence := by
  intro t k s b e hs hp hd ha hq
  have hw : (s.advance t).watchCompletion b k = (s.advance t).driftEvent e b.task.op k := by
    unfold State.watchCompletion; rw [hd]
  obtain ⟨hev, hx⟩ := driftEvent_released t b e b.task.op k k hq
  refine ⟨_, hev, hx, ?_⟩
  rw [exec_benchTaskCompletion t k hs hp ha (.inr (.inl ⟨e, hd⟩)), hw]

/-! ### Pieces (R117 to R120, R126) -/

theorem inFlight_eq {q : Sequencer} {p : Piece} (hq : 1 ≤ q.cursor) (hp : q.pieces[q.cursor - 1]? = some p) :
    q.inFlight = some p := by
  unfold Sequencer.inFlight
  rw [if_neg (Nat.one_le_iff_ne_zero.1 hq), hp]

theorem pieceDone_of_error (s : State) (b : BenchTask) (q : Sequencer) (p : Piece) {c : Completion} {kind : ErrorKind}
    (behind : Bool) (h : c.status = .error kind) : s.pieceDone b q p c behind =
      (s.pieceDrift b.task.op p c).releaseBench
        { b with disp := .split { q with corrected := q.corrected || c.corrected } }
        ⟨.error kind, q.corrected || c.corrected, c.remaining + q.outstanding, c.last, none⟩ := by
  unfold State.pieceDone
  dsimp only
  rw [h]
  dsimp only
  unfold mergedError
  rw [h]

theorem pieceDone_of_last (s : State) (b : BenchTask) (q : Sequencer) (p : Piece) {c : Completion} (behind : Bool)
    (h : c.status = .good) (hq : q.pieces.length ≤ q.cursor) : s.pieceDone b q p c behind =
      (s.pieceDrift b.task.op p c).releaseBench
        { b with disp := .split { q with corrected := q.corrected || c.corrected } }
        ⟨.good, q.corrected || c.corrected, 0, c.last, none⟩ := by
  unfold State.pieceDone
  dsimp only
  rw [h]
  exact if_neg (Nat.not_lt.2 hq)

theorem pieceDone_of_aborted (s : State) (b : BenchTask) (q : Sequencer) (p : Piece) {c : Completion} {behind : Bool}
    (h : c.status = .good) (hq : q.cursor < q.pieces.length) (ha : b.abort = true ∨ behind = true) :
    s.pieceDone b q p c behind = (s.pieceDrift b.task.op p c).releaseBench
        { b with disp := .split { q with corrected := q.corrected || c.corrected }, abort := true }
        ⟨.error .aborted, q.corrected || c.corrected, q.outstanding, c.last, none⟩ := by
  unfold State.pieceDone
  dsimp only
  rw [h]
  exact (if_pos hq).trans (if_pos (by rcases ha with h | h <;> simp [h]))

/-- The next piece goes out under the same grant (R118). -/
theorem pieceDone_of_next (s : State) (b : BenchTask) (q : Sequencer) (p : Piece) {c : Completion} {n : Piece}
    (h : c.status = .good) (hn : q.pieces[q.cursor]? = some n) (ha : b.abort = false) :
    s.pieceDone b q p c false =
      ((s.pieceDrift b.task.op p c).setSlot (some { b with
        disp := .split ⟨q.pieces, q.cursor + 1, q.outstanding - n.count, q.corrected || c.corrected⟩ })).putOnDrive
        ((s.pieceDrift b.task.op p c).pieceTask b.task n) := by
  have hlt : q.cursor < q.pieces.length := (List.getElem?_eq_some_iff.1 hn).1
  unfold State.pieceDone
  dsimp only
  rw [h]
  refine (if_pos hlt).trans ((if_neg (by simp [ha])).trans ?_)
  unfold State.issuePiece
  dsimp only
  rw [hn]
  rfl

/-- What the drift event of a completed piece leaves to its merge (R120): nothing out of scope, and the evidence in scope. -/
theorem pieceDrift_quiet (s : State) (op : Op) (p : Piece) (c : Completion)
    (h : p.inScope = false ∨ s.holdOn = true ∨ s.engine ≠ none) :
    SameButQueue s (s.pieceDrift op p c) ∧ (p.inScope = false → s.pieceDrift op p c = s) ∧
      (p.inScope = true → DriftEvidence s (s.pieceDrift op p c) p.entry op c) ∧
      ∀ a, ((s.pieceDrift op p c).entry a).centre = (s.entry a).centre := by
  unfold State.pieceDrift
  cases hp : p.inScope with
  | false => exact ⟨.refl s, fun _ => rfl, (fun h => nomatch h), fun _ => rfl⟩
  | true =>
    have hq : s.holdOn = true ∨ s.engine ≠ none := h.resolve_left (by simp [hp])
    obtain ⟨hf, he⟩ := driftEvent_quiet p.entry op c hq
    exact ⟨hf, (fun h => nomatch h), fun _ => he, driftEvent_centre p.entry op c hq⟩

theorem exec_pieceCompletion (t : Nat) (k : Completion) (behind : Bool) {b : BenchTask} {q : Sequencer} {p : Piece}
    (hs : s.slot = some b) (hp : b.phase = .issued) (hd : b.disp = .split q) (ha : s.driveAnswers = true)
    (hf : q.inFlight = some p) :
    exec (.pieceCompletion t ⟨k, behind⟩) s = .next ((s.advance t).pieceDone b q p k behind).finish := by
  show (match (s.advance t).answeredTask with | some b => _ | none => _) = _
  rw [answeredTask_of_issued s t hs hp ha]
  dsimp only
  rw [hd]
  dsimp only
  rw [hf]

/-- Settles O34. -/
theorem pieceCompletionsAreMerged : Obligations.PieceCompletionsAreMerged := by
  intro t k behind s b q p u hs hp hd hst ha hq hpiece hquiet corrected answers done
  have hexec := exec_pieceCompletion t k behind hs hp hd ha (inFlight_eq hq hpiece)
  obtain ⟨⟨qu, v, hz⟩, hout, hin, hcentre⟩ := pieceDrift_quiet (s.advance t) b.task.op p k hquiet
  generalize hzd : (s.advance t).pieceDrift b.task.op p k = z at hz hout hin hcentre
  have hkept : p.inScope = false → z.queue = s.queue ∧ z.entries = s.entries := fun h => by rw [hout h]; exact ⟨rfl, rfl⟩
  have hdone (abort : Bool) (c : Completion)
      (hx : (s.advance t).pieceDone b q p k behind = z.releaseBench
        { b with disp := .split { q with corrected := corrected }, abort := abort } c) : done abort c := by
    refine ⟨_, ?_, (hexec.trans (congrArg (fun x : State => Host.Outcome.next x.finish) hx)).trans (next_of_released z _ c),
      hkept, fun h => (hin h).carry rfl rfl rfl rfl rfl rfl rfl rfl rfl⟩
    rw [hz]
    rfl
  refine ⟨fun kind hk => hdone _ _ ?_, fun hk hl => hdone _ _ ?_, fun n hk hn hab => hdone _ _ ?_,
    fun n hk hn hab hbe => ?_⟩
  · rw [pieceDone_of_error _ b q p behind hk, hzd]
  · rw [pieceDone_of_last _ b q p behind hk hl, hzd]
  · rw [pieceDone_of_aborted _ b q p hk (List.getElem?_eq_some_iff.1 hn).1 hab, hzd]
  · subst hbe
    rw [pieceDone_of_next _ b q p hk hn hab, hzd] at hexec
    have hoffset : (z.pieceTask b.task n) = ⟨b.task.op, { b.task.fields with
        addressing := .chs
        cylinder := n.start.cylinder
        head := Fin.ofNat 16 n.start.head
        sector := n.start.sector
        count := n.count
        offset := if n.inScope then ((s.entry n.entry).centre).getD 0 else 0 }⟩ := by
      unfold State.pieceTask State.offsetFor
      rw [hcentre]
      rfl
    rw [hoffset] at hexec
    refine ⟨_, ?_, hexec.trans (congrArg Host.Outcome.next (finish_occupied_letsIn rfl (by simp [hp]))), hkept,
      fun h => (hin h).carry rfl rfl rfl rfl rfl rfl rfl rfl rfl⟩
    rw [hz]
    rfl

/-! ### A bench abort of an issued task (R115, R125, R126) -/

/-- A whole task withheld before its TASK phase opened (R125). -/
theorem abortIssued_withheld (s : State) (b : BenchTask) (moving : Bool) (ho : s.driveOpened = false)
    (hd : ∀ q, b.disp ≠ .split q) : s.abortIssued b moving = s.wholeDone { b with abort := true }
      (endedInside (s.geometry.get b.task.fields.unit) b.task) := by
  unfold State.abortIssued
  rw [ho]
  refine (if_neg Bool.false_ne_true).trans ?_
  cases h : b.disp with
  | split q => exact absurd h (hd q)
  | _ => rfl

/-- A piece withheld before its TASK phase opened (R126). -/
theorem abortIssued_piece (s : State) (b : BenchTask) (moving : Bool) {q : Sequencer} {p : Piece}
    (ho : s.driveOpened = false) (hd : b.disp = .split q) (hf : q.inFlight = some p) :
    s.abortIssued b moving = s.pieceDone { b with abort := true } q p (pieceWithheld p) false := by
  unfold State.abortIssued
  rw [ho]
  refine (if_neg Bool.false_ne_true).trans ?_
  rw [hd]
  dsimp only
  rw [hf]

theorem judgeCopy_of_incomplete (s : State) (h : s.copy.complete = false) : s.judgeCopy = { s with copy := {} } := by
  unfold State.judgeCopy
  rw [h]
  rfl

/-- Settles O26. -/
theorem abortOfAnIssuedTask : Obligations.AbortOfAnIssuedTask := by
  refine ⟨fun t moving early s b u d hs hp hst hd ho => ?_, ?_⟩
  · have hx : (s.advance t).abortIssued b moving = { s.advance t with
        slot := some { b with abort := true, finishing := if b.abort = true then b.finishing else moving }
        port := { s.port with abort := true } } := by
      unfold State.abortIssued
      rw [driveOpened_eq (s := s.advance t) hd, ho]
      rfl
    rw [exec_benchAbort, benchAborts_of_issued (s := s.advance t) moving early hs hp, hx]
    exact next_of_occupied _ _ rfl (benchAsks_of_phase _ rfl (by simp [hp]))
      (engineQuiet_of_held _ (congrArg PortState.isFree hst)) rfl
  · intro t moving early s b u d hs hp hst hd ho aborts whole withheld ends drifts
    have hopened : (s.advance t).driveOpened = false := (driveOpened_eq (s := s.advance t) hd).trans ho
    have haborts : aborts = .next ((s.advance t).abortIssued b moving).finish := by
      rw [← benchAborts_of_issued (s := s.advance t) moving early hs hp]
      rfl
    have hwhole (hns : ∀ q, b.disp ≠ .split q) {z : State}
        (hz : (s.advance t).watchCompletion { b with abort := true } whole = z) :
        aborts = .next (z.releaseBench { b with abort := true } whole).sweepLetIn.drivePins := by
      rw [haborts, abortIssued_withheld (s.advance t) b moving hopened hns, ← hz]
      exact next_of_released _ _ _
    have hdrifts (slot : BenchTask) (e : EntryNo) (c k : Completion) (hq : s.holdOn = true ∨ s.engine ≠ none)
        (hx : aborts = .next (((s.advance t).driftEvent e b.task.op c).releaseBench slot k).sweepLetIn.drivePins) :
        drifts { slot with phase := .completing k } e c := by
      obtain ⟨hev, hr⟩ := driftEvent_released t slot e b.task.op c k hq
      exact ⟨_, hr, hev, hx⟩
    refine ⟨fun hb => ?_, fun place hb hc => ?_, fun e hb hq => ?_, fun q p hb hcur hpiece => ?_⟩
    · refine hwhole (by simp [hb]) (z := s.advance t) ?_
      unfold State.watchCompletion
      dsimp only
      rw [hb]
      exact watchGeometry_of_error (s.advance t) b.task rfl
    · refine hwhole (by simp [hb]) (z := { s.advance t with copy := {} }) ?_
      unfold State.watchCompletion
      dsimp only
      rw [hb]
      exact judgeCopy_of_incomplete (s.advance t) hc
    · refine hdrifts { b with abort := true } e whole whole hq (hwhole (by simp [hb]) ?_)
      unfold State.watchCompletion
      dsimp only
      rw [hb]
    · have hpieces : aborts = .next ((((s.advance t).pieceDrift b.task.op p (pieceWithheld p)).releaseBench
          { b with abort := true }
          { status := .error .aborted
            corrected := q.corrected
            remaining := p.count + q.outstanding
            last := p.start }).sweepLetIn.drivePins) := by
        rw [haborts, abortIssued_piece (s.advance t) b moving hopened hb (inFlight_eq hcur hpiece),
          pieceDone_of_error (s.advance t) _ q p false (kind := .aborted) rfl, next_of_released]
        simp only [pieceWithheld, Bool.or_false, ← hb]
      refine ⟨fun hsc => ?_, fun hsc hq => ?_⟩
      · rw [hpieces]
        unfold State.pieceDrift
        rw [hsc]
        rfl
      · refine hdrifts { b with abort := true } p.entry (pieceWithheld p) _ hq ?_
        rw [hpieces]
        unfold State.pieceDrift
        rw [hsc]
        rfl

end Sys2Proof.Machine
end

section
/-! PROOFS. The judgement of a copy (R158 to R163): O31. -/
namespace Sys2Proof.Machine

variable {s : State}

/-! ### Clamps (R161) -/

theorem byteAt_lt (b : List Byte) (i : Nat) : byteAt b i < 256 := (b.getD i 0).isLt

theorem signedAt_ge (b : List Byte) (i : Nat) : -128 ≤ signedAt b i := by
  have h := (b.getD i 0).le_toInt
  unfold signedAt
  omega

section
variable (n : Nat)

theorem clampTo_one {hi : Nat} (h : 1 ≤ hi) : clampTo 1 hi n = if n = 0 then 1 else min hi n := by
  unfold clampTo; split <;> omega

theorem clampTo_two : clampTo 2 64 n = if n < 2 then 2 else min 64 n := by
  unfold clampTo; split <;> omega

theorem atLeast_one : max 1 n = if n = 0 then 1 else n := by split <;> omega

theorem orderOfCode_eq : orderOfCode n = if n = 1 then .descending else if n = 2 then .centreOut else .ascending := by
  unfold orderOfCode; split <;> simp_all

theorem swmarkModeOfCode_eq : swmarkModeOfCode n = if n = 1 then .sweep else if n = 2 then .point else .off := by
  unfold swmarkModeOfCode; split <;> simp_all

end

theorem clampOffset_eq {o : Int} (h : -128 ≤ o) : clampOffset o = if o = -128 then -127 else o := by
  unfold clampOffset; split <;> omega

theorem clampSpan_eq (o1 o2 : Int) (step : Nat) :
    clampSpan o1 o2 step = if o1 + 63 * step < o2 then o1 + 63 * step else o2 := by
  unfold clampSpan; split <;> omega

/-- The zone-table row of zone `z` as the copy holds it, brought into its ranges (R161, R178). -/
def judgedRow (b : List Byte) (z : Nat) : ZoneRow :=
  { firstCylinder := if (byteAt b 12 ≤ 4 ∧ z < byteAt b 12) ∧ z = 0 then 0 else wordAt b (32 + 8 * z)
    testCylinder := wordAt b (34 + 8 * z)
    firstSector := if (byteAt b 12 ≤ 4 ∧ z < byteAt b 12) ∧ byteAt b (36 + 8 * z) = 0 then 1 else byteAt b (36 + 8 * z)
    sectorCount := if byteAt b 12 ≤ 4 ∧ z < byteAt b 12 then
        (if byteAt b (37 + 8 * z) = 0 then 1 else min 16 (byteAt b (37 + 8 * z)))
      else byteAt b (37 + 8 * z) }

theorem parsePlan_zone (b : List Byte) (z : ZoneNo) : (parsePlan b).zones[z] =
    ⟨wordAt b (32 + 8 * z), wordAt b (34 + 8 * z), byteAt b (36 + 8 * z), byteAt b (37 + 8 * z)⟩ := by
  fin_cases z <;> rfl

theorem clampedRow_parsePlan (b : List Byte) (z : ZoneNo) : clampedRow (parsePlan b) z = judgedRow b z.val := by
  have hf := byteAt_lt b (36 + 8 * z.val)
  have hsector : clampTo 1 255 (byteAt b (36 + 8 * z.val)) =
      if byteAt b (36 + 8 * z.val) = 0 then 1 else byteAt b (36 + 8 * z.val) := by
    rw [clampTo_one _ (by omega)]; split <;> omega
  have hcount := clampTo_one (byteAt b (37 + 8 * z.val)) (hi := 16) (by omega)
  unfold clampedRow rowClamped judgedRow
  rw [parsePlan_zone, show (parsePlan b).zoneCount = byteAt b 12 from rfl, ← Bool.decide_and]
  by_cases hin : byteAt b 12 ≤ 4 ∧ z.val < byteAt b 12
  · simp only [hin, decide_true, if_true, true_and, clampRow, hsector, hcount, and_self]
  · simp only [hin, decide_false, Bool.false_eq_true, if_false, false_and]

theorem clamp_zone (r : RawPlan) (z : ZoneNo) : r.clamp.zones[z] = clampedRow r z := by
  fin_cases z <;> rfl

/-- The plan of a copy with every field in its range, as R161 says it. -/
theorem clamp_parsePlan (b : List Byte) : (parsePlan b).clamp =
    { number := wordAt b 4
      actions := ⟨(byteAt b 6).testBit 0, (byteAt b 6).testBit 1, (byteAt b 6).testBit 2, (byteAt b 6).testBit 3⟩
      unitMask := ⟨(byteAt b 7).testBit 0, (byteAt b 7).testBit 1⟩
      headMask := ⟨BitVec.ofNat 16 (wordAt b 8), BitVec.ofNat 16 (wordAt b 10)⟩
      zoneCount := byteAt b 12
      order := if byteAt b 13 = 1 then .descending else if byteAt b 13 = 2 then .centreOut else .ascending
      mirror := decide (byteAt b 14 ≠ 0)
      passes := if byteAt b 15 = 0 then 1 else min 4 (byteAt b 15)
      step := (parsePlan b).clamp.step
      offset1 := (parsePlan b).clamp.offset1
      offset2 := (parsePlan b).clamp.offset2
      minWidth := min 127 (byteAt b 19)
      threshold := min 4096 (wordAt b 20)
      maxMove := if byteAt b 22 = 0 then 1 else min 127 (byteAt b 22)
      driftLimit := if byteAt b 23 = 0 then 1 else byteAt b 23
      pattern := byteAt b 24 % 16
      settleCount := if byteAt b 25 < 2 then 2 else min 64 (byteAt b 25)
      maxAge := wordAt b 26
      taskTimeout := if byteAt b 28 = 0 then 1 else byteAt b 28
      benchGrace := byteAt b 29
      graceLimit := if byteAt b 30 = 0 then 1 else byteAt b 30
      swmarkMode := if byteAt b 31 = 1 then .sweep else if byteAt b 31 = 2 then .point else .off
      zones := #v[judgedRow b 0, judgedRow b 1, judgedRow b 2, judgedRow b 3] } := by
  rw [← orderOfCode_eq, ← swmarkModeOfCode_eq, ← clampTo_one _ (by omega), ← clampTo_one _ (by omega), ← atLeast_one,
    ← clampTo_two, ← atLeast_one, ← atLeast_one]
  have h0 : clampedRow (parsePlan b) 0 = judgedRow b 0 := clampedRow_parsePlan b 0
  have h1 : clampedRow (parsePlan b) 1 = judgedRow b 1 := clampedRow_parsePlan b 1
  have h2 : clampedRow (parsePlan b) 2 = judgedRow b 2 := clampedRow_parsePlan b 2
  have h3 : clampedRow (parsePlan b) 3 = judgedRow b 3 := clampedRow_parsePlan b 3
  rw [← h0, ← h1, ← h2, ← h3]
  rfl

theorem clamp_offsets (b : List Byte) :
    (parsePlan b).clamp.step = (if byteAt b 16 = 0 then 1 else min 16 (byteAt b 16)) ∧
    (parsePlan b).clamp.offset1 = (if signedAt b 17 = -128 then -127 else signedAt b 17) ∧
    (parsePlan b).clamp.offset2 =
      (if (parsePlan b).clamp.offset1 + 63 * (parsePlan b).clamp.step < (if signedAt b 18 = -128 then -127 else signedAt b 18)
        then (parsePlan b).clamp.offset1 + 63 * (parsePlan b).clamp.step
        else if signedAt b 18 = -128 then -127 else signedAt b 18) := by
  refine ⟨clampTo_one _ (by omega), clampOffset_eq (signedAt_ge b 17), ?_⟩
  rw [← clampOffset_eq (signedAt_ge b 18), ← clampSpan_eq]
  rfl

/-! ### Whether a field was clamped (R161) -/

theorem clampTo_ne {lo hi n : Nat} (h : lo ≤ hi) : n ≠ clampTo lo hi n ↔ n < lo ∨ hi < n := by
  unfold clampTo; omega

/-- Whether a row lies in the zone table as used, and outside its ranges there (R161). -/
def rowOutside (b : List Byte) (z : Nat) : Prop :=
  (byteAt b 12 ≤ 4 ∧ z < byteAt b 12) ∧
    (z = 0 ∧ wordAt b 32 ≠ 0 ∨ byteAt b (36 + 8 * z) = 0 ∨ byteAt b (37 + 8 * z) = 0 ∨ 16 < byteAt b (37 + 8 * z))

theorem judgedRow_ne (b : List Byte) (z : Nat) :
    (⟨wordAt b (32 + 8 * z), wordAt b (34 + 8 * z), byteAt b (36 + 8 * z), byteAt b (37 + 8 * z)⟩ : ZoneRow) ≠
      judgedRow b z ↔ rowOutside b z := by
  unfold judgedRow rowOutside
  rw [ne_eq, ZoneRow.mk.injEq]
  by_cases hin : byteAt b 12 ≤ 4 ∧ z < byteAt b 12
  · by_cases hz : z = 0
    · subst hz
      simp only [hin, true_and, if_true, and_self, Nat.mul_zero, Nat.add_zero]
      split_ifs <;> omega
    · simp only [hin, hz, true_and, if_true, false_and, if_false, and_false, false_or]
      split_ifs <;> omega
  · simp [hin]

theorem zones_clamped_iff (b : List Byte) :
    (parsePlan b).zones ≠ (parsePlan b).clamp.zones ↔ ∃ z < 4, rowOutside b z := by
  have hrow (z : ZoneNo) : (parsePlan b).zones[z] ≠ (parsePlan b).clamp.zones[z] ↔ rowOutside b z.val := by
    rw [clamp_zone, clampedRow_parsePlan, parsePlan_zone]
    exact judgedRow_ne b z.val
  constructor
  · intro hne
    by_contra hall
    refine hne (Vector.ext fun i hi => ?_)
    by_contra hi'
    exact hall ⟨i, hi, (hrow ⟨i, hi⟩).1 hi'⟩
  · rintro ⟨z, hz, ho⟩ heq
    exact (hrow ⟨z, hz⟩).2 ho (by rw [heq])

/-- A plan is marked clamped exactly when a field of it lay outside its range (R161). -/
theorem isClamped_iff (b : List Byte) : (parsePlan b).isClamped = true ↔
    byteAt b 16 = 0 ∨ 16 < byteAt b 16 ∨ signedAt b 17 = -128 ∨ signedAt b 18 = -128 ∨
      (parsePlan b).clamp.offset1 + 63 * (parsePlan b).clamp.step <
        (if signedAt b 18 = -128 then -127 else signedAt b 18) ∨
      2 < byteAt b 13 ∨ byteAt b 15 = 0 ∨ 4 < byteAt b 15 ∨ 4096 < wordAt b 20 ∨ 127 < byteAt b 19 ∨
      byteAt b 22 = 0 ∨ 127 < byteAt b 22 ∨ byteAt b 23 = 0 ∨ 15 < byteAt b 24 ∨
      byteAt b 25 < 2 ∨ 64 < byteAt b 25 ∨ byteAt b 28 = 0 ∨ byteAt b 30 = 0 ∨ 2 < byteAt b 31 ∨
      ∃ z < 4, rowOutside b z := by
  obtain ⟨hs, h1, h2⟩ := clamp_offsets b
  have ho1 := signedAt_ge b 17
  have ho2 := signedAt_ge b 18
  have hstep : (parsePlan b).step ≠ (parsePlan b).clamp.step ↔ byteAt b 16 = 0 ∨ 16 < byteAt b 16 :=
    (clampTo_ne (by omega)).trans (or_congr_left Nat.lt_one_iff)
  have hoffset1 : (parsePlan b).offset1 ≠ (parsePlan b).clamp.offset1 ↔ signedAt b 17 = -128 := by
    rw [h1, show (parsePlan b).offset1 = signedAt b 17 from rfl]
    split <;> omega
  have hoffset2 : (parsePlan b).offset2 ≠ (parsePlan b).clamp.offset2 ↔ signedAt b 18 = -128 ∨
      (parsePlan b).clamp.offset1 + 63 * (parsePlan b).clamp.step <
        (if signedAt b 18 = -128 then -127 else signedAt b 18) := by
    rw [h2, show (parsePlan b).offset2 = signedAt b 18 from rfl]
    have hlow : -127 ≤ (parsePlan b).clamp.offset1 := by rw [h1]; split <;> omega
    have hpos : 1 ≤ (parsePlan b).clamp.step := by rw [hs]; split <;> omega
    generalize (parsePlan b).clamp.offset1 = o at *
    generalize (parsePlan b).clamp.step = d at *
    split_ifs <;> omega
  have hpasses : (parsePlan b).passes ≠ (parsePlan b).clamp.passes ↔ byteAt b 15 = 0 ∨ 4 < byteAt b 15 :=
    (clampTo_ne (by omega)).trans (or_congr_left Nat.lt_one_iff)
  have hthreshold : (parsePlan b).threshold ≠ (parsePlan b).clamp.threshold ↔ 4096 < wordAt b 20 := by
    show wordAt b 20 ≠ min 4096 (wordAt b 20) ↔ _; omega
  have hwidth : (parsePlan b).minWidth ≠ (parsePlan b).clamp.minWidth ↔ 127 < byteAt b 19 := by
    show byteAt b 19 ≠ min 127 (byteAt b 19) ↔ _; omega
  have hmove : (parsePlan b).maxMove ≠ (parsePlan b).clamp.maxMove ↔ byteAt b 22 = 0 ∨ 127 < byteAt b 22 :=
    (clampTo_ne (by omega)).trans (or_congr_left Nat.lt_one_iff)
  have hdrift : (parsePlan b).driftLimit ≠ (parsePlan b).clamp.driftLimit ↔ byteAt b 23 = 0 := by
    show byteAt b 23 ≠ max 1 (byteAt b 23) ↔ _; omega
  have hpattern : (parsePlan b).pattern ≠ (parsePlan b).clamp.pattern ↔ 15 < byteAt b 24 := by
    show byteAt b 24 ≠ byteAt b 24 % 16 ↔ _; omega
  have hsettle : (parsePlan b).settleCount ≠ (parsePlan b).clamp.settleCount ↔ byteAt b 25 < 2 ∨ 64 < byteAt b 25 :=
    clampTo_ne (by omega)
  have htimeout : (parsePlan b).taskTimeout ≠ (parsePlan b).clamp.taskTimeout ↔ byteAt b 28 = 0 := by
    show byteAt b 28 ≠ max 1 (byteAt b 28) ↔ _; omega
  have hgrace : (parsePlan b).graceLimit ≠ (parsePlan b).clamp.graceLimit ↔ byteAt b 30 = 0 := by
    show byteAt b 30 ≠ max 1 (byteAt b 30) ↔ _; omega
  have hzones := zones_clamped_iff b
  unfold RawPlan.isClamped
  simp only [Bool.or_eq_true, decide_eq_true_eq, hstep, hoffset1, hoffset2, hpasses, hthreshold, hwidth, hmove, hdrift,
    hpattern, hsettle, htimeout, hgrace, hzones, or_assoc]
  rfl

/-! ### Coherence of the zones (R162) -/

theorem clamp_unordered_iff (b : List Byte) (h4 : byteAt b 12 ≤ 4) : (parsePlan b).clamp.Unordered ↔
    ∃ z, z + 1 < byteAt b 12 ∧ (judgedRow b (z + 1)).firstCylinder ≤ (judgedRow b z).firstCylinder := by
  unfold Plan.Unordered
  simp only [clamp_zone, clampedRow_parsePlan]
  constructor
  · rintro ⟨z, y, hy, hc, hle⟩
    have hc' : y.val < byteAt b 12 := hc
    rw [hy] at hc' hle
    exact ⟨z.val, hc', hle⟩
  · rintro ⟨z, hc, hle⟩
    exact ⟨⟨z, by omega⟩, ⟨z + 1, by omega⟩, rfl, hc, hle⟩

theorem clamp_strays_iff (b : List Byte) (h4 : byteAt b 12 ≤ 4) : (parsePlan b).clamp.Strays ↔
    ∃ z < byteAt b 12, (judgedRow b z).testCylinder < (judgedRow b z).firstCylinder ∨
      z + 1 < byteAt b 12 ∧ (judgedRow b (z + 1)).firstCylinder ≤ (judgedRow b z).testCylinder := by
  unfold Plan.Strays
  simp only [clamp_zone, clampedRow_parsePlan]
  constructor
  · rintro ⟨z, hz, h | ⟨y, hy, hc, hle⟩⟩
    · exact ⟨z.val, hz, .inl h⟩
    · have hc' : y.val < byteAt b 12 := hc
      rw [hy] at hc' hle
      exact ⟨z.val, hz, .inr ⟨hc', hle⟩⟩
  · rintro ⟨z, hz, h | ⟨hc, hle⟩⟩
    · exact ⟨⟨z, by omega⟩, hz, .inl h⟩
    · exact ⟨⟨z, by omega⟩, hz, .inr ⟨⟨z + 1, by omega⟩, rfl, hc, hle⟩⟩

/-- What a SNOOP's completion does when its copy gives no plan to take (R158, R163). -/
theorem judgeCopy_untaken (s : State)
    (h : s.copy.complete = false ∨ judge s.copy.bytes = .ignored ∨ ∃ n c, judge s.copy.bytes = .refused n c) :
    s.judgeCopy = { s with
      copy := {}
      planEvent := if s.copy.complete = false then s.planEvent
        else match judge s.copy.bytes with
          | .ignored => ⟨0, .ignored, none⟩
          | .refused n c => ⟨n, .refused, some c⟩
          | .taken _ _ => s.planEvent } := by
  by_cases hc : s.copy.complete = false
  · rw [judgeCopy_of_incomplete s hc, if_pos hc]
  · rw [if_neg hc]
    have hcomplete : s.copy.complete = true := by simpa using hc
    unfold State.judgeCopy
    refine (if_pos hcomplete).trans ?_
    rcases h.resolve_left hc with hj | ⟨n, c, hj⟩ <;> rw [hj] <;> rfl

/-- Settles O31. -/
theorem snoopCompletionJudgesTheCopy : Obligations.SnoopCompletionJudgesTheCopy := by
  constructor
  · intro t k s b place hs hp hd ha hj
    have hw : (s.advance t).watchCompletion b k = (s.advance t).judgeCopy := by
      unfold State.watchCompletion; rw [hd]
    rw [exec_benchTaskCompletion t k hs hp ha (.inr (.inr ⟨place, hd⟩)), hw, judgeCopy_untaken (s.advance t) hj]
    rfl
  · intro b w y number zones step offset1 wished offset2 inForce row p outside unordered strays
    obtain ⟨hstep, hoff1, hoff2⟩ := clamp_offsets b
    have hp : (parsePlan b).clamp = p := by
      rw [clamp_parsePlan, hoff2, hoff1, hstep]
      rfl
    have hout : (parsePlan b).isClamped = true ↔ outside := by
      rw [isClamped_iff, hoff1, hstep]
      rfl
    obtain ⟨hignored, hsigned⟩ := judge_cases b
    refine ⟨hignored, fun hsig => ⟨(hsigned hsig).1, fun hsum => ?_⟩⟩
    obtain ⟨hrefused, htaken⟩ := (hsigned hsig).2 hsum
    obtain ⟨hcount, hzones⟩ := incoherence_cases (parsePlan b).clamp
    refine ⟨fun h => hrefused _ (hcount h), fun ⟨h1, h4⟩ => ?_⟩
    obtain ⟨hz, ht, hr, hok⟩ := hzones h1 h4
    have hu := clamp_unordered_iff b h4
    have hst := clamp_strays_iff b h4
    refine ⟨fun h => hrefused _ (hz (hu.2 h)), fun ⟨h, h'⟩ => hrefused _ (ht (mt hu.1 h) (hst.2 h')),
      fun ⟨h, h', hlt⟩ => hrefused _ (hr (mt hu.1 h) (mt hst.1 h') (by rw [hp]; exact hlt)), fun ⟨h, h', hle⟩ => ?_⟩
    have htake := htaken (hok (mt hu.1 h) (mt hst.1 h') (by rw [hp]; exact hle))
    rw [hp] at htake
    refine ⟨fun ho => ?_, fun ho => ?_⟩
    · rw [htake, hout.2 ho]
    · rw [htake, Bool.eq_false_iff.2 (mt hout.1 ho)]

end Sys2Proof.Machine
end

section
/-! PROOFS. The plan sector as served is judged TAKEN and gives its plan back (R159 to R163, R176, R178): O33. -/
namespace Sys2Proof.Machine

/-! ### The sum of words (R160, R176) -/

theorem wordSum_append (a b : List Byte) (h : a.length % 2 = 0) : wordSum (a ++ b) = wordSum a + wordSum b := by
  induction a using wordSum.induct with
  | case1 lo hi rest ih =>
    have hrest : rest.length % 2 = 0 := by simp only [List.length_cons] at h; omega
    simp only [List.cons_append, wordSum, ih hrest, Nat.add_assoc]
  | case2 lo => simp at h
  | case3 => simp [wordSum]

theorem wordSum_zeros (n : Nat) : wordSum (zeros n) = 0 := by
  induction n using Nat.twoStepInduction with
  | zero => rfl
  | one => rfl
  | more n ih _ => simpa [zeros, List.replicate_succ, wordSum] using ih

theorem wordSum_le16 (n : Nat) : wordSum (le16 n) = n % 65536 := (Nat.add_zero _).trans (le16_value n)

theorem planBody_length (p : Plan) : (planBody p).length = 64 := by
  simp [planBody, zoneRowBytes, le16, zeros]

theorem length_padTo {n : Nat} {a : List Byte} (h : a.length ≤ n) : (padTo n a).length = n := by
  unfold padTo zeros
  rw [List.length_append, List.length_replicate]
  omega

theorem planBody_padded (p : Plan) : (padTo 510 (planBody p)).length = 510 :=
  length_padTo (by rw [planBody_length]; omega)

theorem wordSum_planSector (p : Plan) : wordSum (planSector p) % 65536 = 0 := by
  have hpad : wordSum (padTo 510 (planBody p)) = wordSum (planBody p) := by
    unfold padTo
    rw [wordSum_append _ _ (by rw [planBody_length]), wordSum_zeros, Nat.add_zero]
  have hcheck : checkWord (planBody p) = (65536 - wordSum (planBody p) % 65536) % 65536 := rfl
  unfold planSector
  rw [wordSum_append _ _ (by rw [planBody_padded]), hpad, wordSum_le16, hcheck]
  omega

/-! ### The fields as written (R178) -/

variable {p : Plan}

theorem planSector_getD (p : Plan) {k : Nat} (hk : k < 64) : (planSector p).getD k 0 = (planBody p).getD k 0 := by
  have h1 : k < (planBody p).length := by rw [planBody_length]; exact hk
  have h2 : k < (padTo 510 (planBody p)).length := by rw [planBody_padded]; omega
  unfold planSector
  rw [List.getD_append _ _ _ _ h2]
  exact List.getD_append _ _ _ _ h1

theorem parsePlan_planSector (p : Plan) : parsePlan (planSector p) = parsePlan (planBody p) := by
  have hbyte {k : Nat} (hk : k < 64) : byteAt (planSector p) k = byteAt (planBody p) k :=
    congrArg BitVec.toNat (planSector_getD p hk)
  have hword {k : Nat} (hk : k < 63) : wordAt (planSector p) k = wordAt (planBody p) k := by
    unfold wordAt; rw [hbyte (by omega), hbyte (by omega)]
  have hsigned {k : Nat} (hk : k < 64) : signedAt (planSector p) k = signedAt (planBody p) k :=
    congrArg BitVec.toInt (planSector_getD p hk)
  unfold parsePlan parseZoneRow
  simp (disch := omega) only [hbyte, hword, hsigned]

/-- The raw fields that the layout of R178 gives a plan in range. -/
def Plan.written (p : Plan) : RawPlan where
  number := p.number
  actions := p.actions.code
  unitMask := bit p.unitMask.u0 1 + bit p.unitMask.u1 2
  headMask0 := p.headMask.u0.toNat
  headMask1 := p.headMask.u1.toNat
  zoneCount := p.zoneCount
  order := p.order.code
  mirror := bit p.mirror 1
  passes := p.passes
  step := p.step
  offset1 := p.offset1
  offset2 := p.offset2
  minWidth := p.minWidth
  threshold := p.threshold
  maxMove := p.maxMove
  driftLimit := p.driftLimit
  pattern := p.pattern
  settleCount := p.settleCount
  maxAge := p.maxAge
  taskTimeout := p.taskTimeout
  benchGrace := p.benchGrace
  graceLimit := p.graceLimit
  swmarkMode := p.swmarkMode.code
  zones := p.zones

theorem byte_of_lt {n : Nat} (h : n < 256) : (byte n).toNat = n := (toNat_byte n).trans (Nat.mod_eq_of_lt h)

theorem le16_of_lt {n : Nat} (h : n < 65536) : (byte n).toNat + 256 * (byte (n / 256)).toNat = n :=
  (le16_value n).trans (Nat.mod_eq_of_lt h)

theorem signedByte_of_range {i : Int} (h1 : -128 ≤ i) (h2 : i ≤ 127) : (signedByte i).toInt = i := by
  unfold signedByte
  rw [BitVec.toInt_ofInt]
  exact Int.bmod_eq_of_le (by omega) (by omega)

theorem actions_code_lt (a : Actions) : a.code < 16 := by
  obtain ⟨c, q, h, r⟩ := a
  unfold Actions.code bit
  cases c <;> cases q <;> cases h <;> cases r <;> decide

theorem unitMask_code_lt (m : PerUnit Bool) : bit m.u0 1 + bit m.u1 2 < 4 := by
  unfold bit; split_ifs <;> omega

theorem zoneRow_written {r : ZoneRow} (h : r.InRange) : (⟨(byte r.firstCylinder).toNat + 256 * (byte (r.firstCylinder / 256)).toNat,
    (byte r.testCylinder).toNat + 256 * (byte (r.testCylinder / 256)).toNat, (byte r.firstSector).toNat,
    (byte r.sectorCount).toNat⟩ : ZoneRow) = r := by
  obtain ⟨h1, h2, h3, h4⟩ := h
  rw [le16_of_lt (by omega), le16_of_lt (by omega), byte_of_lt (by omega), byte_of_lt (by omega)]

/-- The first half of the layout, place by place (R178). -/
theorem planBody_eq (p : Plan) : planBody p =
    [byte 22600, byte (22600 / 256), byte 16724, byte (16724 / 256), byte p.number, byte (p.number / 256),
      byte p.actions.code, byte (bit p.unitMask.u0 1 + bit p.unitMask.u1 2),
      byte p.headMask.u0.toNat, byte (p.headMask.u0.toNat / 256), byte p.headMask.u1.toNat,
      byte (p.headMask.u1.toNat / 256), byte p.zoneCount, byte p.order.code, byte (bit p.mirror 1), byte p.passes,
      byte p.step, signedByte p.offset1, signedByte p.offset2, byte p.minWidth,
      byte p.threshold, byte (p.threshold / 256), byte p.maxMove, byte p.driftLimit, byte p.pattern, byte p.settleCount,
      byte p.maxAge, byte (p.maxAge / 256), byte p.taskTimeout, byte p.benchGrace, byte p.graceLimit,
      byte p.swmarkMode.code] ++
    (zoneRowBytes p.zones[0] ++ zoneRowBytes p.zones[1] ++ zoneRowBytes p.zones[2] ++ zoneRowBytes p.zones[3]) := rfl

theorem parsePlan_planBody (h : p.Ok) : parsePlan (planBody p) = p.written := by
  have hraw : parsePlan (planBody p) =
      { number := (byte p.number).toNat + 256 * (byte (p.number / 256)).toNat
        actions := (byte p.actions.code).toNat
        unitMask := (byte (bit p.unitMask.u0 1 + bit p.unitMask.u1 2)).toNat
        headMask0 := (byte p.headMask.u0.toNat).toNat + 256 * (byte (p.headMask.u0.toNat / 256)).toNat
        headMask1 := (byte p.headMask.u1.toNat).toNat + 256 * (byte (p.headMask.u1.toNat / 256)).toNat
        zoneCount := (byte p.zoneCount).toNat
        order := (byte p.order.code).toNat
        mirror := (byte (bit p.mirror 1)).toNat
        passes := (byte p.passes).toNat
        step := (byte p.step).toNat
        offset1 := (signedByte p.offset1).toInt
        offset2 := (signedByte p.offset2).toInt
        minWidth := (byte p.minWidth).toNat
        threshold := (byte p.threshold).toNat + 256 * (byte (p.threshold / 256)).toNat
        maxMove := (byte p.maxMove).toNat
        driftLimit := (byte p.driftLimit).toNat
        pattern := (byte p.pattern).toNat
        settleCount := (byte p.settleCount).toNat
        maxAge := (byte p.maxAge).toNat + 256 * (byte (p.maxAge / 256)).toNat
        taskTimeout := (byte p.taskTimeout).toNat
        benchGrace := (byte p.benchGrace).toNat
        graceLimit := (byte p.graceLimit).toNat
        swmarkMode := (byte p.swmarkMode.code).toNat
        zones := p.zones.map fun r : ZoneRow => ⟨(byte r.firstCylinder).toNat + 256 * (byte (r.firstCylinder / 256)).toNat,
          (byte r.testCylinder).toNat + 256 * (byte (r.testCylinder / 256)).toNat, (byte r.firstSector).toNat,
          (byte r.sectorCount).toNat⟩ } := by
    rw [planBody_eq]
    unfold parsePlan
    congr 1
    refine Vector.ext fun i hi => ?_
    rw [Vector.getElem_map]
    interval_cases i <;> rfl
  have hzones : (p.zones.map fun r : ZoneRow => (⟨(byte r.firstCylinder).toNat + 256 * (byte (r.firstCylinder / 256)).toNat,
      (byte r.testCylinder).toNat + 256 * (byte (r.testCylinder / 256)).toNat, (byte r.firstSector).toNat,
      (byte r.sectorCount).toNat⟩ : ZoneRow)) = p.zones := by
    refine Vector.ext fun i hi => ?_
    rw [Vector.getElem_map]
    exact zoneRow_written (h.rows ⟨i, hi⟩)
  have hactions := actions_code_lt p.actions
  have hunits := unitMask_code_lt p.unitMask
  have horder : p.order.code < 256 := by cases p.order <;> decide
  have hmode : p.swmarkMode.code < 256 := by cases p.swmarkMode <;> decide
  have hmirror : bit p.mirror 1 < 256 := by cases p.mirror <;> decide
  obtain ⟨h1, ⟨-, h2⟩, ⟨h3, h3'⟩, ⟨h4, h4', -⟩, ⟨-, h5⟩, h6, h7, ⟨-, h8⟩, ⟨-, h9⟩, h10, h11, ⟨-, h12⟩, ⟨-, h13⟩, h14, ⟨-, h15⟩,
    -, -, -, ⟨-, h16⟩, -, -, -⟩ := h
  rw [hraw, hzones, le16_of_lt (n := p.number) (by omega), byte_of_lt (n := p.actions.code) (by omega),
    byte_of_lt (n := bit p.unitMask.u0 1 + bit p.unitMask.u1 2) (by omega), le16_of_lt p.headMask.u0.isLt,
    le16_of_lt p.headMask.u1.isLt, byte_of_lt (n := p.zoneCount) (by omega), byte_of_lt horder, byte_of_lt hmirror,
    byte_of_lt (n := p.passes) (by omega), byte_of_lt (n := p.step) (by omega),
    signedByte_of_range (i := p.offset1) (by omega) (by omega), signedByte_of_range (i := p.offset2) (by omega) (by omega),
    byte_of_lt (n := p.minWidth) (by omega), le16_of_lt (n := p.threshold) (by omega),
    byte_of_lt (n := p.maxMove) (by omega), byte_of_lt (n := p.driftLimit) (by omega),
    byte_of_lt (n := p.pattern) (by omega), byte_of_lt (n := p.settleCount) (by omega),
    le16_of_lt (n := p.maxAge) (by omega), byte_of_lt (n := p.taskTimeout) (by omega),
    byte_of_lt (n := p.benchGrace) (by omega), byte_of_lt (n := p.graceLimit) (by omega), byte_of_lt hmode]
  rfl

/-! ### A plan in range passes the clamps and the coherence tests (R161, R162) -/

theorem actionsOfByte_code (a : Actions) : actionsOfByte a.code = a := by
  obtain ⟨c, q, h, r⟩ := a
  cases c <;> cases q <;> cases h <;> cases r <;> decide

theorem unitMask_ofCode (m : PerUnit Bool) :
    (⟨(bit m.u0 1 + bit m.u1 2).testBit 0, (bit m.u0 1 + bit m.u1 2).testBit 1⟩ : PerUnit Bool) = m := by
  obtain ⟨a, b⟩ := m
  cases a <;> cases b <;> decide

theorem clampTo_of_mem {lo hi n : Nat} (h1 : lo ≤ n) (h2 : n ≤ hi) : clampTo lo hi n = n := by
  unfold clampTo; omega

theorem clampedRow_written (h : p.Ok) (z : ZoneNo) : clampedRow p.written z = p.zones[z] := by
  unfold clampedRow
  rw [show p.written.zones = p.zones from rfl, show p.written.zoneCount = p.zoneCount from rfl]
  split
  · next hr =>
    have hlt : z.val < p.zoneCount := by
      unfold rowClamped at hr
      simp only [Bool.and_eq_true, decide_eq_true_eq] at hr
      exact hr.2
    obtain ⟨hf, hk, hk'⟩ := h.definedRows z hlt
    have hrange := (h.rows z).2.2.1
    unfold clampRow
    rw [clampTo_of_mem hf hrange, clampTo_of_mem hk hk']
    by_cases hz : z.val = 0
    · have hz0 : z = 0 := Fin.ext hz
      subst hz0
      have h0 : (p.zones[(0 : ZoneNo)]).firstCylinder = 0 := h.zone0
      rw [if_pos hz, ← h0]
    · rw [if_neg hz]
  · rfl

theorem clamp_written (h : p.Ok) : p.written.clamp = p := by
  have hzones : #v[clampedRow p.written 0, clampedRow p.written 1, clampedRow p.written 2, clampedRow p.written 3] =
      p.zones := by
    rw [clampedRow_written h, clampedRow_written h, clampedRow_written h, clampedRow_written h]
    refine Vector.ext fun i hi => ?_
    interval_cases i <;> rfl
  have hstep : clampTo 1 16 p.step = p.step := clampTo_of_mem h.step.1 h.step.2
  have hoffset1 : clampOffset p.offset1 = p.offset1 := max_eq_right h.offset1.1
  have hoffset2 : clampSpan p.offset1 (clampOffset p.offset2) p.step = p.offset2 := by
    rw [show clampOffset p.offset2 = p.offset2 from max_eq_right h.offset2.1]
    exact min_eq_left h.offset2.2.2
  have horder : orderOfCode p.order.code = p.order := by cases p.order <;> rfl
  have hmode : swmarkModeOfCode p.swmarkMode.code = p.swmarkMode := by cases p.swmarkMode <;> rfl
  have hmirror : decide (bit p.mirror 1 ≠ 0) = p.mirror := by cases p.mirror <;> rfl
  have hpattern : p.pattern % 16 = p.pattern := Nat.mod_eq_of_lt (by have := h.pattern; omega)
  have hmasks : (⟨BitVec.ofNat 16 p.headMask.u0.toNat, BitVec.ofNat 16 p.headMask.u1.toNat⟩ : PerUnit (BitVec 16)) =
      p.headMask := by rw [BitVec.ofNat_toNat, BitVec.ofNat_toNat, BitVec.setWidth_eq, BitVec.setWidth_eq]
  unfold RawPlan.clamp
  rw [hzones]
  unfold Plan.written
  dsimp only
  rw [hstep, hoffset1, hoffset2, horder, hmode, hmirror, hpattern, hmasks, actionsOfByte_code, unitMask_ofCode,
    clampTo_of_mem h.passes.1 h.passes.2, min_eq_right h.minWidth, min_eq_right h.threshold,
    clampTo_of_mem h.maxMove.1 h.maxMove.2, max_eq_right h.driftLimit.1, clampTo_of_mem h.settleCount.1 h.settleCount.2,
    max_eq_right h.taskTimeout.1, max_eq_right h.graceLimit.1]

theorem written_notClamped (h : p.Ok) : p.written.isClamped = false := by
  have horder : ¬ p.order.code > 2 := by cases p.order <;> decide
  have hmode : ¬ p.swmarkMode.code > 2 := by cases p.swmarkMode <;> decide
  unfold RawPlan.isClamped
  rw [clamp_written h]
  simp [Plan.written, horder, hmode]

theorem coherent_of_ok (h : p.Ok) : p.incoherence = none := by
  refine (coherent_iff p).2 ⟨h.zoneCount.1, h.zoneCount.2, ?_, ?_, h.offsets⟩
  · rintro ⟨z, y, hy, hc, hle⟩
    exact absurd (h.ascending z y hy hc) (Nat.not_lt.2 hle)
  · rintro ⟨z, hz, hlt | ⟨y, hy, hc, hle⟩⟩
    · exact absurd (h.testInZone z hz).1 (Nat.not_le.2 hlt)
    · exact absurd ((h.testInZone z hz).2 y hy hc) (Nat.not_lt.2 hle)

theorem planSector_signature (p : Plan) : wordAt (planSector p) 0 = 22600 ∧ wordAt (planSector p) 2 = 16724 := by
  have hbyte {k : Nat} (hk : k < 64) : byteAt (planSector p) k = byteAt (planBody p) k :=
    congrArg BitVec.toNat (planSector_getD p hk)
  unfold wordAt
  rw [hbyte (by omega), hbyte (by omega), hbyte (by omega), hbyte (by omega), planBody_eq]
  exact ⟨le16_of_lt (n := 22600) (by omega), le16_of_lt (n := 16724) (by omega)⟩

/-- Settles O33. -/
theorem planSectorReadsBackAsItsPlan : Obligations.PlanSectorReadsBackAsItsPlan := by
  intro p h
  have hraw : parsePlan (planSector p) = p.written := (parsePlan_planSector p).trans (parsePlan_planBody h)
  have htaken := (((judge_cases (planSector p)).2 (planSector_signature p)).2 (wordSum_planSector p)).2
  rw [hraw, clamp_written h, written_notClamped h] at htaken
  exact htaken (coherent_of_ok h)

end Sys2Proof.Machine
end

section
/-! PROOFS. The service-area sectors as served, byte by byte (R173, R174, R176 to R181): O23. -/
namespace Sys2Proof.Machine

variable {s : State} {b c : List Byte} {off : Nat}

/-! ### What stands where -/

/-- The bytes of `c` stand in sector `b` from offset `off` on. -/
def Reads (b : List Byte) (off : Nat) (c : List Byte) : Prop := ∀ k < c.length, byteAt b (off + k) = byteAt c k

theorem Reads.byte (h : Reads b off c) (k : Nat) (hk : Nat.ble (k + 1) c.length = true) :
    byteAt b (off + k) = byteAt c k := h k (Nat.le_of_ble_eq_true hk)

theorem Reads.word (h : Reads b off c) (k : Nat) (hk : Nat.ble (k + 2) c.length = true) :
    wordAt b (off + k) = wordAt c k := by
  have hlt := Nat.le_of_ble_eq_true hk
  unfold wordAt
  rw [h k (by omega), Nat.add_assoc, h (k + 1) (by omega)]

theorem Reads.quad (h : Reads b off c) (k : Nat) (hk : Nat.ble (k + 4) c.length = true) :
    quadAt b (off + k) = quadAt c k := by
  have hlt := Nat.le_of_ble_eq_true hk
  unfold quadAt
  rw [h.word k (Nat.ble_eq_true_of_le (by omega)), Nat.add_assoc, h.word (k + 2) (Nat.ble_eq_true_of_le (by omega))]

theorem Reads.left {x y : List Byte} (h : Reads b off (x ++ y)) : Reads b off x := fun k hk =>
  (h k (by rw [List.length_append]; omega)).trans (byteAt_append_left x y k hk)

theorem Reads.right {x y : List Byte} (h : Reads b off (x ++ y)) {n : Nat} (hx : x.length = n) :
    Reads b (off + n) y := fun k hk => by
  subst hx
  rw [Nat.add_assoc, h _ (by rw [List.length_append]; omega), byteAt_append_right]

/-- Records of one length stand one after another. -/
theorem Reads.record {α : Type} {f : α → List Byte} {l : List α} {m : Nat} (h : Reads b off (l.flatMap f))
    (hf : ∀ a, (f a).length = m) {j : Nat} {a : α} (hj : l[j]? = some a) : Reads b (off + m * j) (f a) := fun k hk => by
  have hk' : k < m := by rw [← hf a]; exact hk
  have hlt : m * j + k < (l.flatMap f).length := by
    rw [length_flatMap f m hf]
    have : j < l.length := (List.getElem?_eq_some_iff.1 hj).1
    have : m * (j + 1) ≤ m * l.length := Nat.mul_le_mul_left m this
    rw [Nat.mul_add] at this
    omega
  rw [Nat.add_assoc, h _ hlt, byteAt_flatMap f m hf l j k a hj hk']

/-! ### Flags, places and codes (R177, R179, R180) -/

theorem flag_le (f : Bool) (w : Nat) : bit f w ≤ w := by unfold bit; split <;> omega

/-- The three bytes of an entry's place (R179, R181). -/
theorem placeAt_of (i : EntryNo) {rest : List Byte} {k : Nat}
    (h : Reads b k ([byte (unitOf i).val, byte (headOf i).val, byte (zoneOf i).val] ++ rest)) : PlaceAt b k i := by
  refine ⟨(h.byte 0 rfl).trans (byte_of_lt ?_), (h.byte 1 rfl).trans (byte_of_lt ?_), (h.byte 2 rfl).trans (byte_of_lt ?_)⟩
  · have := (unitOf i).isLt; omega
  · have := (headOf i).isLt; omega
  · have := (zoneOf i).isLt; omega

theorem causeByte (o : Option Cause) : (byte (optCode Cause.code o)).toNat = causeCodes.idxOf o := by
  rw [causeCode_eq]
  refine byte_of_lt ?_
  rcases o with _ | o <;> [decide; (cases o <;> decide)]

theorem outcomeByte (o : Option SweepOutcome) : (byte (optCode SweepOutcome.code o)).toNat = outcomeCodes.idxOf o := by
  rw [outcomeCode_eq]
  refine byte_of_lt ?_
  rcases o with _ | o <;> [decide; (cases o <;> decide)]

theorem refusalByte (o : Option RefusalCause) : (byte (optCode RefusalCause.code o)).toNat = refusalCodes.idxOf o := by
  rw [refusalCode_eq]
  refine byte_of_lt ?_
  rcases o with _ | o <;> [decide; (cases o <;> decide)]

theorem counter_value (n : BitVec 32) : (byte n.toNat).toNat + 256 * (byte (n.toNat / 256)).toNat +
    65536 * ((byte (n.toNat / 65536)).toNat + 256 * (byte (n.toNat / 65536 / 256)).toNat) = n.toNat :=
  (le32_value n.toNat).trans (Nat.mod_eq_of_lt n.isLt)

theorem signedWord_value (i : Int) : (((byte (BitVec.ofInt 16 i).toNat).toNat +
    256 * (byte ((BitVec.ofInt 16 i).toNat / 256)).toNat : Nat) : Int) = i % 65536 := by
  rw [le16_value]; exact signed16_value i

/-! ### The header (R179) -/

theorem unitLayout_of {v : UnitView} {k : Nat} (h : Reads b k (unitBlock v)) : UnitLayout b k v where
  spindle := (h.byte 0 rfl).trans (by show (byte v.spindle.code).toNat = _; cases v.spindle <;> rfl)
  flags := (h.byte 1 rfl).trans (byte_of_lt (by
    have := flag_le v.geometry.isSome 1
    have := flag_le v.wedged 2
    omega))
  heads := (h.byte 2 rfl).trans (toNat_byte _)
  sectors := (h.byte 3 rfl).trans (toNat_byte _)
  period := (h.quad 4 rfl).trans (le32_value _)

/-- The parts of the header in the order of R179. -/
theorem headerBody_eq (v : Snapshot) : headerBody v =
    (le16 v.planNumber ++ le16 v.planEvent.number ++ [byte v.planEvent.result.code,
      byte (optCode RefusalCause.code v.planEvent.cause), byte (bit v.holdLine 1 + bit v.holdPlan 2), v.service]) ++
    (unitBlock v.units.u0 ++ (unitBlock v.units.u1 ++ (engineBlock v.engine ++
      ([byte v.port.code, byte v.port.unitNo, byte v.graceRun, 0] ++ (counterBytes v.counters ++
        (([byte v.queue.length] ++ zeros 3) ++ v.queue.flatMap queueRecBytes)))))) := by
  unfold headerBody
  simp only [List.append_assoc]

theorem headerBody_length (v : Snapshot) : (headerBody v).length = 64 + 4 * v.queue.length := by
  rw [headerBody_eq]
  simp only [List.length_append, length_engineBlock, length_flatMap queueRecBytes 4 length_queueRecBytes]
  rw [show (unitBlock v.units.u0).length = 8 from rfl, show (unitBlock v.units.u1).length = 8 from rfl,
    show (counterBytes v.counters).length = 24 from rfl]
  show 2 + 2 + 4 + (8 + (8 + (8 + (4 + (24 + (1 + 3 + 4 * v.queue.length)))))) = _
  omega

theorem headerLayout_of {v : Snapshot} (h : Reads b 16 (headerBody v)) (hq : v.queue.length ≤ 16)
    (hrest : ∀ k, 16 + (headerBody v).length ≤ k → byteAt b k = 0) : HeaderLayout b v := by
  rw [headerBody_length] at hrest
  rw [headerBody_eq] at h
  have h0 := h.left
  have h1 : Reads b 24 _ := h.right rfl
  have h2 : Reads b 32 _ := h1.right rfl
  have h3 : Reads b 40 _ := h2.right rfl
  have h4 : Reads b 48 _ := h3.right (length_engineBlock _)
  have h5 : Reads b 52 _ := h4.right rfl
  have h6 : Reads b 76 _ := h5.right rfl
  have h7 : Reads b 80 _ := h6.right rfl
  have hp := h4.left
  have hc := h5.left
  have hn := h6.left
  exact {
    plan := (h0.word 0 rfl).trans (le16_value _)
    eventNumber := (h0.word 2 rfl).trans (le16_value _)
    eventResult := (h0.byte 4 rfl).trans (by
      show (byte v.planEvent.result.code).toNat = _; cases v.planEvent.result <;> rfl)
    eventCause := (h0.byte 5 rfl).trans (refusalByte _)
    hold := (h0.byte 6 rfl).trans (byte_of_lt (by
      have := flag_le v.holdLine 1
      have := flag_le v.holdPlan 2
      omega))
    service := h0.byte 7 rfl
    unit0 := unitLayout_of h1.left
    unit1 := unitLayout_of h2.left
    idle := fun he => by
      have h3' := h3.left
      rw [he] at h3'
      exact ⟨h3'.quad 0 rfl, h3'.quad 4 rfl⟩
    running := fun e he => by
      have h3' := h3.left
      rw [he] at h3'
      refine ⟨(h3'.byte 0 rfl).trans ?_, placeAt_of e.subject
        (Reads.right (x := [byte e.phase.code]) h3' rfl), (h3'.byte 4 rfl).trans (causeByte (some e.cause)),
        (h3'.byte 5 rfl).trans (toNat_byte _), (h3'.byte 6 rfl).trans (toNat_byte _), h3'.byte 7 rfl⟩
      show (byte e.phase.code).toNat = _
      cases e.phase <;> rfl
    port := ⟨(hp.byte 0 rfl).trans (by show (byte v.port.code).toNat = _; cases v.port <;> rfl),
      (hp.byte 1 rfl).trans (by
        show (byte v.port.unitNo).toNat = _
        cases v.port with
        | free => rfl
        | _ u => exact byte_of_lt (by have := u.isLt; show u.val < 256; omega))⟩
    graceRun := ⟨(hp.byte 2 rfl).trans (toNat_byte _), hp.byte 3 rfl⟩
    passed := (hc.quad 0 rfl).trans (counter_value _)
    applied := (hc.quad 4 rfl).trans (counter_value _)
    split := (hc.quad 8 rfl).trans (counter_value _)
    localAnswers := (hc.quad 12 rfl).trans (counter_value _)
    untranslated := (hc.quad 16 rfl).trans (counter_value _)
    sweepsEnded := (hc.quad 20 rfl).trans (counter_value _)
    queueCount := ⟨(hn.byte 0 rfl).trans (byte_of_lt (by omega)), hn.byte 1 rfl, hn.word 2 rfl⟩
    records := fun k r hk => by
      have hr := h7.record length_queueRecBytes hk
      refine ⟨placeAt_of r.entry (rest := [byte r.cause.code]) hr, ?_⟩
      rw [show 83 + 4 * k = 80 + 4 * k + 3 by omega]
      exact (hr.byte 3 rfl).trans (causeByte (some r.cause))
    rest := fun k hk => hrest k (by omega) }

/-! ### Entries, the curve and the log (R180, R181) -/

theorem clip_flags (k : Clip) (low high : Nat) : k.flags low high = flagOf (lowClipped k) low + flagOf (highClipped k) high := by
  cases k <;> simp [Clip.flags, lowClipped, highClipped, flagOf]

theorem entryLayout_of {e : Entry} {k : Nat} (h : Reads b k (entryBytes e)) : EntryLayout b k e where
  state := (h.byte 0 rfl).trans (by show (byte e.state.code).toNat = _; cases e.state <;> rfl)
  flags := (h.byte 1 rfl).trans (by
    show (byte _).toNat = _
    rw [clip_flags]
    refine (byte_of_lt ?_).trans ?_
    · have := flag_le e.centre.isSome 1
      have := flag_le e.candidate.isSome 2
      have := flag_le e.laid 4
      have := flag_le e.wanted.isSome 8
      have : flagOf (lowClipped e.clipped) 16 ≤ 16 := flag_le _ _
      have : flagOf (highClipped e.clipped) 32 ≤ 32 := flag_le _ _
      omega
    · rw [← Nat.add_assoc]
      rfl)
  centre := (congrArg Nat.cast (h.byte 2 rfl)).trans (signedByte_value _)
  candidate := (congrArg Nat.cast (h.byte 3 rfl)).trans (signedByte_value _)
  width := (h.word 4 rfl).trans (le16_value _)
  drift := (h.byte 6 rfl).trans (toNat_byte _)
  retries := (h.byte 7 rfl).trans (toNat_byte _)
  age := (h.word 8 rfl).trans (le16_value _)
  lastOutcome := (h.byte 10 rfl).trans (outcomeByte _)
  wanted := (h.byte 11 rfl).trans (causeByte _)

theorem mapBody_length (v : Snapshot) (n : Nat) : (mapBody v n).length ≤ 384 := by
  unfold mapBody
  rw [length_flatMap entryBytes 12 length_entryBytes]
  have := List.length_take_le 32 (v.entries.toList.drop ((n - 3) * 32))
  omega

theorem curveBody_length (k : Curve) : (curveBody k).length = 8 + 6 * k.points.length := by
  unfold curveBody
  rw [List.length_append, length_flatMap _ 6 fun _ => rfl]
  rfl

theorem curveLayout_of {k : Curve} (h : Reads b 16 (curveBody k)) (hl : k.points.length ≤ 64)
    (hrest : ∀ i, 16 + (curveBody k).length ≤ i → byteAt b i = 0) : CurveLayout b k := by
  rw [curveBody_length] at hrest
  have h0 := h.left
  have h1 : Reads b 24 _ := h.right rfl
  refine ⟨(h0.word 0 rfl).trans ((le16_value _).trans (Nat.mod_eq_of_lt k.seq.isLt)),
    ⟨(h0.byte 2 rfl).trans (byte_of_lt (by omega)), h0.byte 3 rfl, h0.quad 4 rfl⟩, fun i p hp => ?_, fun i hi => hrest i (by omega)⟩
  have hr := h1.record (m := 6) (fun _ => rfl) hp
  refine ⟨(congrArg Nat.cast (hr.word 0 rfl)).trans (signedWord_value _), ?_⟩
  rw [show 26 + 6 * i = 24 + 6 * i + 2 by omega]
  exact (hr.quad 2 rfl).trans (le32_value _)

theorem resultLayout_of {r : ResultRec} {k : Nat} (h : Reads b k (resultBytes r)) : ResultLayout b k r := by
  have h0 := h.left
  have h8 : Reads b (k + 8) _ := h.right rfl
  have hplace : Reads b (k + 2) ([byte (unitOf r.entry).val, byte (headOf r.entry).val, byte (zoneOf r.entry).val] ++
      [byte r.cause.code, byte r.outcome.code, byte r.points]) := h0.right rfl
  exact {
    seq := (h0.word 0 rfl).trans ((le16_value _).trans (Nat.mod_eq_of_lt r.seq.isLt))
    place := placeAt_of r.entry hplace
    cause := (h0.byte 5 rfl).trans (causeByte (some r.cause))
    outcome := (h0.byte 6 rfl).trans (outcomeByte (some r.outcome))
    points := (h0.byte 7 rfl).trans (toNat_byte _)
    noFit := fun ho => by
      rw [ho] at h8
      exact ⟨h8.quad 0 rfl, h8.quad 4 rfl⟩
    fit := fun o ho => by
      rw [ho] at h8
      refine ⟨(h8.byte 0 rfl).trans ?_, (congrArg Nat.cast (h8.byte 1 rfl)).trans (signedByte_value _),
        (h8.word 2 rfl).trans (le16_value _), (congrArg Nat.cast (h8.word 4 rfl)).trans (signedWord_value _),
        (congrArg Nat.cast (h8.word 6 rfl)).trans (signedWord_value _)⟩
      show (byte (1 + o.clipped.flags 2 4)).toNat = _
      rw [clip_flags, ← Nat.add_assoc]
      refine byte_of_lt ?_
      have : flagOf (lowClipped o.clipped) 2 ≤ 2 := flag_le _ _
      have : flagOf (highClipped o.clipped) 4 ≤ 4 := flag_le _ _
      omega }

theorem logRecords_length (log : List ResultRec) : (log.flatMap resultBytes).length = 16 * log.length :=
  length_flatMap resultBytes 16 length_resultBytes log

theorem logBody_length {log : List ResultRec} (hl : log.length ≤ 30) : (logBody log).length = 481 := by
  unfold logBody
  rw [List.length_append, length_padTo (by rw [logRecords_length]; omega)]
  rfl

theorem logLayout_of {log : List ResultRec} (h : Reads b 16 (logBody log)) (hl : log.length ≤ 30)
    (hrest : ∀ k, 16 + (logBody log).length ≤ k → byteAt b k = 0) : LogLayout b log := by
  have hlen : (padTo 480 (log.flatMap resultBytes)).length = 480 := length_padTo (by rw [logRecords_length]; omega)
  have h0 : Reads b 16 (padTo 480 (log.flatMap resultBytes)) := h.left
  have h1 : Reads b 496 [byte log.length] := h.right hlen
  rw [logBody_length hl] at hrest
  refine ⟨fun k r hk => resultLayout_of (h0.left.record length_resultBytes hk), (h1.byte 0 rfl).trans (byte_of_lt (by omega)),
    fun k hk hne => ?_⟩
  by_cases hk' : 497 ≤ k
  · exact hrest k (by omega)
  · obtain ⟨j, rfl⟩ := Nat.exists_eq_add_of_le (show 16 ≤ k by omega)
    rw [h0 j (by omega), byteAt_padTo]
    exact byteAt_past _ _ (by rw [logRecords_length]; omega)

/-! ### The sectors (R171 to R174) -/

theorem reportSector_of_snapshot (s : State) {v : Snapshot} (hv : s.snapshot = some v) (n : Nat) :
    s.reportSector n = padTo 512 (reportHead s.snapNumber n v.timeBase ++ reportBody v n) := by
  unfold State.reportSector
  rw [hv]

theorem reads_reportHead (s : State) {v : Snapshot} (hv : s.snapshot = some v) (n : Nat) :
    Reads (s.reportSector n) 0 (reportHead s.snapNumber n v.timeBase) := fun k hk => by
  rw [Nat.zero_add]
  exact byteAt_reportSector_head s hv n k (by rw [length_reportHead] at hk; exact hk)

theorem reads_reportBody (s : State) {v : Snapshot} (hv : s.snapshot = some v) (n : Nat) :
    Reads (s.reportSector n) 16 (reportBody v n) := fun k _ => byteAt_reportSector_body s hv n k

theorem reportSector_rest (s : State) {v : Snapshot} (hv : s.snapshot = some v) (n k : Nat)
    (hk : 16 + (reportBody v n).length ≤ k) : byteAt (s.reportSector n) k = 0 := by
  obtain ⟨j, rfl⟩ := Nat.exists_eq_add_of_le (show 16 ≤ k by omega)
  rw [byteAt_reportSector_body s hv n j]
  exact byteAt_past _ _ (by omega)

theorem reportBody_length {v : Snapshot} (hq : v.queue.length ≤ 16) (hc : v.curve.points.length ≤ 64)
    (hl : v.log.length ≤ 30) (n : Nat) : (reportBody v n).length ≤ 496 := by
  unfold reportBody
  split_ifs
  · rw [headerBody_length]; omega
  · rw [curveBody_length]; omega
  · rw [logBody_length hl]; omega
  · have := mapBody_length v n; omega

/-- A snapshot copies every reportable item as it stands (R173). -/
theorem takeView_eq (s : State) : s.takeView =
    { timeBase := s.now / 1000
      planNumber := s.plan.number
      planEvent := s.planEvent
      holdLine := s.holdLine.asserted
      holdPlan := s.planHold
      service := s.straps.service
      units :=
        ⟨⟨s.monitors.u0.state, s.monitors.u0.lastPeriod, s.geometry.u0, s.wedgedOn 0⟩,
          ⟨s.monitors.u1.state, s.monitors.u1.lastPeriod, s.geometry.u1, s.wedgedOn 1⟩⟩
      engine := s.engine.map fun c => ⟨c.phase, c.subject, c.cause, if c.phase = .laying then 0 else c.pass,
        if c.phase = .laying then 0 else c.point⟩
      port := s.port.state.view
      graceRun := s.port.graceRun
      counters := s.counters
      queue := s.queue
      entries := s.entries
      curve := s.curve
      log := s.log } := by
  have hview : Context.view = fun c => ⟨c.phase, c.subject, c.cause, if c.phase = .laying then 0 else c.pass,
      if c.phase = .laying then 0 else c.point⟩ := by
    funext c
    unfold Context.view
    cases c.phase <;> rfl
  unfold State.takeView
  rw [hview]
  rfl

/-- A report sector served before the first snapshot (R174). -/
theorem reportSector_empty (s : State) (hs : s.snapshot = none) {n : Nat} (hn : n ≤ 8) :
    (s.reportSector n).length = 512 ∧ wordAt (s.reportSector n) 0 = 22600 ∧ wordAt (s.reportSector n) 2 = 21061 ∧
      byteAt (s.reportSector n) 6 = n ∧ ∀ k, 4 ≤ k → k ≠ 6 → byteAt (s.reportSector n) k = 0 := by
  have hsector : s.reportSector n = padTo 512 (reportHead 0 n 0) := by
    unfold State.reportSector
    rw [hs]
  have hbyte (k : Nat) : byteAt (s.reportSector n) k = byteAt (reportHead 0 n 0) k := by
    rw [hsector, byteAt_padTo]
  refine ⟨?_, ?_, ?_, (hbyte 6).trans (byte_of_lt (by omega)), fun k h4 h6 => (hbyte k).trans ?_⟩
  · rw [hsector]
    exact length_padTo (by rw [length_reportHead]; omega)
  · unfold wordAt
    rw [hbyte, hbyte]
    exact le16_of_lt (n := 22600) (by omega)
  · unfold wordAt
    rw [hbyte, hbyte]
    exact le16_of_lt (n := 21061) (by omega)
  · by_cases hk : k < 16
    · rcases Nat.lt_or_gt_of_ne h6 with hlow | hhigh <;> interval_cases k <;> rfl
    · exact byteAt_past _ _ (by rw [length_reportHead]; omega)

/-- The head of a report sector (R179). -/
theorem headLayout_of (s : State) {v : Snapshot} (hv : s.snapshot = some v) (hnum : s.snapNumber ≤ 65535) {n : Nat}
    (hn : n ≤ 8) : wordAt (s.reportSector n) 0 = 22600 ∧ wordAt (s.reportSector n) 2 = 21061 ∧
      HeadLayout (s.reportSector n) n s.snapNumber v := by
  have h := reads_reportHead s hv n
  have hword {k : Nat} (hk : Nat.ble (k + 2) 16 = true) :
      wordAt (s.reportSector n) k = wordAt (reportHead s.snapNumber n v.timeBase) k := by
    have := h.word k hk
    rwa [Nat.zero_add] at this
  have hbyte {k : Nat} (hk : Nat.ble (k + 1) 16 = true) :
      byteAt (s.reportSector n) k = byteAt (reportHead s.snapNumber n v.timeBase) k := by
    have := h.byte k hk
    rwa [Nat.zero_add] at this
  have hquad {k : Nat} (hk : Nat.ble (k + 4) 16 = true) :
      quadAt (s.reportSector n) k = quadAt (reportHead s.snapNumber n v.timeBase) k := by
    have := h.quad k hk
    rwa [Nat.zero_add] at this
  exact ⟨(hword rfl).trans (le16_of_lt (n := 22600) (by omega)), (hword rfl).trans (le16_of_lt (n := 21061) (by omega)),
    { number := (hword rfl).trans (le16_of_lt (n := s.snapNumber) (by omega))
      sector := ⟨(hbyte rfl).trans (byte_of_lt (n := n) (by omega)), hbyte rfl⟩
      time := (hquad rfl).trans (le32_value v.timeBase)
      padding := hquad rfl }⟩

theorem reportBody_map (v : Snapshot) (i : EntryNo) : reportBody v (3 + i.val / 32) = mapBody v (3 + i.val / 32) := by
  have := i.isLt
  unfold reportBody
  rw [if_neg (by omega), if_neg (by omega), if_neg (by omega)]

/-- Settles O23. -/
theorem servedSectorsHaveTheirForm : Obligations.ServedSectorsHaveTheirForm := by
  refine ⟨fun p => ⟨?_, ?_, ?_, wordSum_planSector p⟩, fun s => ?_, fun s n h2 h8 hs => reportSector_empty s hs h8,
    fun s v hv hnum hq hc hl => ⟨fun n h2 h8 => ⟨?_, headLayout_of s hv hnum h8⟩, ?_, fun i => ⟨?_, fun k hk => ?_⟩, ?_, ?_⟩⟩
  · unfold planSector
    rw [List.length_append, planBody_padded]
    rfl
  · exact (planSector_signature p).1
  · exact (planSector_signature p).2
  · rw [takeView_eq s]
    congr 1
  · rw [reportSector_of_snapshot s hv]
    refine length_padTo ?_
    have := reportBody_length hq hc hl n
    rw [List.length_append, length_reportHead]
    omega
  · exact headerLayout_of (reads_reportBody s hv 2) hq (reportSector_rest s hv 2)
  · have hentry : ((v.entries.toList.drop ((3 + i.val / 32 - 3) * 32)).take 32)[i.val % 32]? = some v.entries[i] := by
      rw [List.getElem?_take_of_lt (Nat.mod_lt _ (by omega)), List.getElem?_drop,
        show (3 + i.val / 32 - 3) * 32 + i.val % 32 = i.val by omega, Vector.getElem?_toList, Vector.getElem?_eq_getElem i.isLt]
      rfl
    have hreads := reads_reportBody s hv (3 + i.val / 32)
    rw [reportBody_map v i] at hreads
    exact entryLayout_of (hreads.record length_entryBytes hentry)
  · refine reportSector_rest s hv _ k ?_
    rw [reportBody_map v i]
    have := mapBody_length v (3 + i.val / 32)
    omega
  · exact curveLayout_of (reads_reportBody s hv 7) hc (reportSector_rest s hv 7)
  · exact logLayout_of (reads_reportBody s hv 8) hl (reportSector_rest s hv 8)

end Sys2Proof.Machine
end

section
/-! PROOFS. The take of a plan step by step (R19, R20, R94, R164 to R168): O32. -/
namespace Sys2Proof.Machine

variable {s : State}

/-! ### Clears and scope (R165 to R167) -/

/-- Whether the running sweep's subject is among the entries that `gone` names. -/
def State.sweepGone (s : State) (gone : EntryNo → Bool) : Bool :=
  match s.engine with
  | some c => gone c.subject
  | none => false

theorem sweepGone_of_idle (gone : EntryNo → Bool) (h : s.engine = none) : s.sweepGone gone = false := by
  unfold State.sweepGone; rw [h]

theorem sweepGone_of_running (gone : EntryNo → Bool) {c : Context} (h : s.engine = some c) :
    s.sweepGone gone = gone c.subject := by
  unfold State.sweepGone; rw [h]

theorem sweepGone_of_same {t : State} (h : t.engine = s.engine) (gone : EntryNo → Bool) :
    t.sweepGone gone = s.sweepGone gone := by
  unfold State.sweepGone; rw [h]

theorem exists_of_sweepGone {gone : EntryNo → Bool} (h : s.sweepGone gone = true) :
    ∃ c, s.engine = some c ∧ gone c.subject = true := by
  revert h
  unfold State.sweepGone
  cases s.engine with
  | none => exact nofun
  | some c => exact fun hc => ⟨c, rfl, hc⟩

/-- From `s` to `t` the records of the entries that `gone` names left the queue, and a sweep of one of them ended
ABORTED_PLAN; the entries are those of `kept`. -/
structure Trimmed (s t : State) (gone : EntryNo → Bool) (kept : EntryNo → Entry) : Prop where
  frame : SameButEnding s t
  queue : t.queue = s.queue.filter fun r => !gone r.entry
  entries : ∀ i, t.entry i = kept i
  curve : t.curve = s.curve
  goesOn : s.sweepGone gone = false → t.engine = s.engine ∧ t.log = s.log ∧ t.nextSeq = s.nextSeq ∧
    t.counters = s.counters ∧ t.swmark = s.swmark
  ends : ∀ c, s.engine = some c → gone c.subject = true → t.engine = none ∧ t.nextSeq = s.nextSeq + 1 ∧
    t.log = (if s.log.length < 30 then s.log else s.log.tail) ++
      [⟨s.nextSeq, c.subject, c.cause, .abortedPlan, c.points, none⟩] ∧
    t.counters = { s.counters with sweepsEnded := s.counters.sweepsEnded + 1 } ∧ t.swmark = s.markerAfterEnding

theorem Trimmed.refl (s : State) : Trimmed s s (fun _ => false) s.entry where
  frame := .refl s
  queue := (List.filter_eq_self.2 fun _ _ => rfl).symm
  entries _ := rfl
  curve := rfl
  goesOn _ := ⟨rfl, rfl, rfl, rfl, rfl⟩
  ends _ _ h := nomatch h

theorem Trimmed.trans {t r : State} {gone more : EntryNo → Bool} {kept last : EntryNo → Entry}
    (h : Trimmed s t gone kept) (k : Trimmed t r more last) : Trimmed s r (fun i => gone i || more i) last where
  frame := h.frame.trans k.frame
  queue := by
    rw [k.queue, h.queue, List.filter_filter]
    exact List.filter_congr fun x _ => by rw [Bool.not_or, Bool.and_comm]
  entries := k.entries
  curve := k.curve.trans h.curve
  goesOn hn := by
    have hboth : s.sweepGone gone = false ∧ s.sweepGone more = false := by
      revert hn
      unfold State.sweepGone
      cases s.engine with
      | none => exact fun _ => ⟨rfl, rfl⟩
      | some c => exact Bool.or_eq_false_iff.1
    obtain ⟨e, l, n, c, w⟩ := h.goesOn hboth.1
    obtain ⟨e', l', n', c', w'⟩ := k.goesOn ((sweepGone_of_same e more).trans hboth.2)
    exact ⟨e'.trans e, l'.trans l, n'.trans n, c'.trans c, w'.trans w⟩
  ends c he hg := by
    by_cases hgone : gone c.subject = true
    · obtain ⟨e, n, l, x, w⟩ := h.ends c he hgone
      obtain ⟨e', l', n', x', w'⟩ := k.goesOn (sweepGone_of_idle more e)
      exact ⟨e'.trans e, n'.trans n, l'.trans l, x'.trans x, w'.trans w⟩
    · have hstays : s.sweepGone gone = false := (sweepGone_of_running gone he).trans (Bool.eq_false_iff.2 hgone)
      obtain ⟨e, l, n, x, w⟩ := h.goesOn hstays
      have hmarker : t.markerAfterEnding = s.markerAfterEnding := by
        obtain ⟨_, _, _, _, _, _, _, _, _, _, hf⟩ := h.frame
        rw [hf] at w ⊢
        unfold State.markerAfterEnding
        rw [w]
      obtain ⟨e', n', l', x', w'⟩ := k.ends c (e.trans he) ((Bool.or_eq_true_iff.1 hg).resolve_left hgone)
      rw [n] at n' l'
      rw [l] at l'
      rw [x] at x'
      exact ⟨e', n', l', x', w'.trans hmarker⟩

/-- The entries that `gone` names are dropped: every entry takes the value `f` gives, their records leave the queue, and a
sweep of one of them ends with `g`. -/
def State.dropEntries (s : State) (gone : EntryNo → Bool) (f : EntryNo → Entry → Entry) (g : Ending) : State :=
  let dropped := (s.mapEntries f).setQueue (s.queue.filter fun r => !gone r.entry)
  if s.sweepGone gone then dropped.endSweepNoLook g else dropped

/-- An entry after the drop, from its value `v i`: the subject of the ended sweep with its ending. -/
def State.droppedEntry (s : State) (gone : EntryNo → Bool) (v : EntryNo → Entry) (g : Ending) (i : EntryNo) : Entry :=
  match s.engine with
  | some c => if i = c.subject ∧ gone i = true then (v i).ended c g else v i
  | none => v i

theorem droppedEntry_wanted (s : State) (gone : EntryNo → Bool) (v : EntryNo → Entry) (g : Ending) (i : EntryNo) :
    (s.droppedEntry gone v g i).wanted = (v i).wanted := by
  unfold State.droppedEntry
  cases s.engine with
  | none => rfl
  | some c => dsimp only; split <;> simp [ended_wanted]

/-- The end of a sweep that a take drops: a record in the log and nothing requeued (R94, R95, R102). -/
theorem dropEntries_trimmed (s : State) (gone : EntryNo → Bool) (f : EntryNo → Entry → Entry) {g : Ending}
    (hg : g = .abortedPlanClear ∨ g = .abortedPlanScope) :
    Trimmed s (s.dropEntries gone f g) gone (s.droppedEntry gone (fun i => f i (s.entry i)) g) := by
  unfold State.dropEntries
  dsimp only
  generalize hx : (s.mapEntries f).setQueue (s.queue.filter fun r => !gone r.entry) = x
  have hentry (i : EntryNo) : x.entry i = f i (s.entry i) := by rw [← hx, State.setQueue_entry, State.entry_mapEntries]
  have hframe : SameButQueue s x := by rw [← hx]; exact (mapEntries_frame s f).trans (setQueue_frame _ _)
  have hqueue : x.queue = s.queue.filter fun r => !gone r.entry := by rw [← hx]; rfl
  obtain ⟨q, v, hxs⟩ := hframe
  have hengine : x.engine = s.engine := by rw [hxs]
  by_cases hs : s.sweepGone gone = true
  · rw [if_pos hs]
    obtain ⟨c, he, hc⟩ := exists_of_sweepGone hs
    have hxe : x.engine = some c := hengine.trans he
    have hnone : g.requeue (x.entry c.subject) = none := by rcases hg with rfl | rfl <;> rfl
    refine ⟨?_, (endSweepNoLook_notRequeued x hxe hnone).1.trans hqueue, fun i => ?_, ?_, fun hn => absurd hs (by simp [hn]), ?_⟩
    · exact SameButEnding.trans (SameButLook.toEnding (SameButQueue.toLook ⟨q, v, hxs⟩)) (endSweepNoLook_frame x g)
    · rw [endSweepNoLook_of_running x g hxe, hnone]
      refine (settleEnding_entry x c g i).trans ?_
      unfold State.droppedEntry
      rw [he]
      dsimp only
      by_cases hi : i = c.subject
      · subst hi
        rw [if_pos rfl, if_pos ⟨rfl, hc⟩, hentry]
      · rw [if_neg hi, if_neg fun h => hi h.1, hentry]
    · rw [endSweepNoLook_of_running x g hxe, hnone, hxs]
      rcases hg with rfl | rfl <;> rfl
    · intro c' he' _
      obtain rfl : c = c' := Option.some.inj (he.symm.trans he')
      rw [endSweepNoLook_of_running x g hxe, hnone]
      refine ⟨rfl, ?_, (appendLog_eq _ _).trans ?_, ?_, (swmarkStop_eq x).trans ?_⟩
      · rw [hxs]; rfl
      · rw [hxs]; rcases hg with rfl | rfl <;> rfl
      · rw [hxs]; rfl
      · rw [hxs]; rfl
  · rw [if_neg hs]
    refine ⟨SameButLook.toEnding (SameButQueue.toLook ⟨q, v, hxs⟩), hqueue, fun i => ?_, by rw [hxs], fun _ => ?_,
      fun c he hc => absurd ?_ hs⟩
    · rw [hentry]
      unfold State.droppedEntry
      cases he : s.engine with
      | none => rfl
      | some c =>
        dsimp only
        rw [if_neg]
        rintro ⟨rfl, hc⟩
        exact hs ((sweepGone_of_running gone he).trans hc)
    · rw [hxs]; exact ⟨rfl, rfl, rfl, rfl, rfl⟩
    · exact (sweepGone_of_running gone he).trans hc

theorem clearEntries_eq (s : State) (gone : EntryNo → Bool) : s.clearEntries gone =
    (s.dropEntries gone (fun i e => if gone i then {} else e) .abortedPlanClear).reoffer := by
  unfold State.clearEntries State.dropEntries State.sweepGone
  dsimp only
  rw [State.setQueue_engine, State.mapEntries_engine]
  cases s.engine <;> rfl

theorem applyScope_eq (s : State) : s.applyScope =
    (s.dropEntries (fun i => !s.plan.inScope i)
      (fun i e => if !s.plan.inScope i then { e with wanted := none } else e) .abortedPlanScope).reoffer := by
  unfold State.applyScope State.dropEntries State.sweepGone
  dsimp only
  rw [State.setQueue_engine, State.mapEntries_engine]
  cases s.engine <;> rfl

/-- A clear while no entry is wanted (R19, R20, R165, R167). -/
theorem clearEntries_trimmed (s : State) (gone : EntryNo → Bool) (hw : ∀ i, (s.entry i).wanted = none) :
    Trimmed s (s.clearEntries gone) gone fun i => if gone i then {} else s.entry i := by
  have h := dropEntries_trimmed s gone (fun i e => if gone i then {} else e) (g := .abortedPlanClear) (.inl rfl)
  have hkept : s.droppedEntry gone (fun i => if gone i then {} else s.entry i) .abortedPlanClear =
      fun i => if gone i then {} else s.entry i := by
    funext i
    unfold State.droppedEntry
    cases s.engine with
    | none => rfl
    | some c => exact ite_self _
  rw [hkept] at h
  rw [clearEntries_eq, reoffer_of_noneWanted fun i => ?_]
  · exact h
  · rw [h.entries]
    split
    · rfl
    · exact hw i

/-- The scope step while no entry is wanted: the subject of a sweep that falls out of scope is put back (R94, R166). -/
theorem applyScope_trimmed (s : State) (hw : ∀ i, (s.entry i).wanted = none) :
    Trimmed s s.applyScope (fun i => !s.plan.inScope i)
      (s.droppedEntry (fun i => !s.plan.inScope i) s.entry .abortedPlanScope) := by
  have h := dropEntries_trimmed s (fun i => !s.plan.inScope i)
    (fun i e => if !s.plan.inScope i then { e with wanted := none } else e) (g := .abortedPlanScope) (.inr rfl)
  have hsame : (fun i => if !s.plan.inScope i then { s.entry i with wanted := none } else s.entry i) = s.entry := by
    funext i
    split
    · rw [← hw i]
    · rfl
  rw [hsame] at h
  rw [applyScope_eq, reoffer_of_noneWanted fun i => ?_]
  · exact h
  · rw [h.entries, droppedEntry_wanted]
    exact hw i

/-- CLEAR MAP while no entry is wanted, where the action set holds it (R167). -/
theorem applyClearMap_trimmed (s : State) (hw : ∀ i, (s.entry i).wanted = none) :
    Trimmed s s.applyClearMap (fun _ => s.plan.actions.clearMap)
      fun i => if s.plan.actions.clearMap then {} else s.entry i := by
  unfold State.applyClearMap
  cases s.plan.actions.clearMap with
  | true => exact clearEntries_trimmed s (fun _ => true) hw
  | false => exact .refl s

/-- The entries after the three clears: the cleared ones empty, the subject of a sweep that fell out of scope put back. -/
def State.keptEntry (s : State) (cleared : EntryNo → Bool) (i : EntryNo) : Entry :=
  if cleared i then {}
  else match s.engine with
    | some c => if c.subject = i ∧ s.plan.inScope i = false then (s.entry i).ended c .abortedPlanScope else s.entry i
    | none => s.entry i

/-- The scope step behind a clear finds the sweep that the clear let go on (R166). -/
theorem Trimmed.scope {x : State} {cleared : EntryNo → Bool}
    (h : Trimmed s x cleared fun i => if cleared i then {} else s.entry i) (hp : x.plan = s.plan) (i : EntryNo) :
    x.droppedEntry (fun a => !x.plan.inScope a) x.entry .abortedPlanScope i = s.keptEntry cleared i := by
  unfold State.droppedEntry State.keptEntry
  rw [h.entries, hp]
  cases he : s.engine with
  | none =>
    rw [(h.goesOn (sweepGone_of_idle cleared he)).1, he]
  | some c =>
    cases hc : cleared c.subject with
    | true =>
      rw [(h.ends c he hc).1]
      by_cases hi : c.subject = i
      · subst hi; simp [hc]
      · simp [hi]
    | false =>
      rw [(h.goesOn ((sweepGone_of_running cleared he).trans hc)).1, he]
      by_cases hi : c.subject = i
      · subst hi; simp [hc]
      · simp [hi, Ne.symm hi]

/-- The first three steps of a take while no entry is wanted (R165 to R167). -/
theorem clears_trimmed (s : State) (old : Plan) (hw : ∀ i, (s.entry i).wanted = none) {cleared : EntryNo → Bool}
    (hc : ∀ i, cleared i = (redefines old s.plan (zoneOf i) || s.plan.actions.clearMap)) :
    Trimmed s ((s.redefineZones old).applyScope).applyClearMap (fun i => cleared i || !s.plan.inScope i)
      (s.keptEntry cleared) := by
  have hredefined := clearEntries_trimmed s (fun i => redefines old s.plan (zoneOf i)) hw
  generalize hx : s.clearEntries (fun i => redefines old s.plan (zoneOf i)) = x at hredefined
  have hscope := applyScope_trimmed x fun i => by rw [hredefined.entries]; split <;> simp [hw]
  generalize hy : x.applyScope = y at hscope
  have hclear := applyClearMap_trimmed y fun i => by
    rw [hscope.entries, droppedEntry_wanted, hredefined.entries]; split <;> simp [hw]
  have hxp : x.plan = s.plan := by obtain ⟨_, _, _, _, _, _, _, _, _, _, h⟩ := hredefined.frame; rw [h]
  have hyp : y.plan = s.plan := by
    rw [← hxp]; obtain ⟨_, _, _, _, _, _, _, _, _, _, h⟩ := hscope.frame; rw [h]
  have hall := (hredefined.trans hscope).trans hclear
  rw [hxp, hyp] at hall
  have hgone : (fun i => redefines old s.plan (zoneOf i) || !s.plan.inScope i || s.plan.actions.clearMap) =
      fun i => cleared i || !s.plan.inScope i := by
    funext i; rw [hc, Bool.or_right_comm]
  have hkept : (fun i => if s.plan.actions.clearMap then {} else y.entry i) = s.keptEntry cleared := by
    funext i
    rw [hscope.entries, hredefined.scope hxp]
    unfold State.keptEntry
    rw [hc]
    cases s.plan.actions.clearMap <;> simp
  unfold State.redefineZones
  rw [hx, hy, ← hgone, ← hkept]
  exact hall

/-! ### QUEUE ALL (R18, R168) -/

/-- QUEUE ALL in map order while no entry is wanted and the subject of a running sweep is MEASURING. -/
theorem queueAll_requests (x : State) (hw : ∀ i, (x.entry i).wanted = none)
    (hm : ∀ c, x.engine = some c → (x.entry c.subject).state = .measuring) {asks : EntryNo → Bool}
    (ha : ∀ i, asks i = (x.plan.inScope i && decide ((x.entry i).state ≠ .measuring))) :
    let asking := (List.finRange 128).filter fun i => asks i && !(x.queue.map (·.entry)).contains i
    SameButQueue x (allEntries.foldl State.queueOne x) ∧
      (allEntries.foldl State.queueOne x).queue =
        x.queue ++ (asking.take (16 - x.queue.length)).map (fun i => ⟨i, .plan⟩) ∧
      ∀ i, (allEntries.foldl State.queueOne x).entry i =
        { x.entry i with
          state := if asks i = true ∧ (x.entry i).state = .failed then .stale else (x.entry i).state
          wanted := if i ∈ asking.drop (16 - x.queue.length) then some .plan else none } := by
  intro asking
  obtain ⟨hframe, hqueue, hentry⟩ := foldl_askIf (fun pl i e => pl.inScope i && !decide (e.state = .measuring))
    (fun e => if e.state = .failed then .stale else e.state) (fun _ _ _ h => (Bool.and_eq_true_iff.1 h).1) .plan
    allEntries (List.nodup_finRange 128) x
  have hheard : allEntries.filter (x.hears fun pl i e => pl.inScope i && !decide (e.state = .measuring)) = asking := by
    refine List.filter_congr fun i _ => ?_
    have hqueued : x.isQueued i = (x.queue.map (·.entry)).contains i := by
      unfold State.isQueued
      rw [Bool.eq_iff_iff]
      simp
    unfold State.hears State.isSubject
    rw [ha, hqueued]
    cases he : x.engine with
    | none => simp
    | some c =>
      by_cases hi : c.subject = i
      · simp [← hi, hm c he]
      · simp [hi]
  rw [← queueOne_eq] at hframe hqueue hentry
  rw [hheard] at hqueue hentry
  refine ⟨hframe, hqueue, fun i => ?_⟩
  have hstate : (if i ∈ allEntries ∧ (x.plan.inScope i && !decide ((x.entry i).state = .measuring)) = true then
      (if (x.entry i).state = .failed then .stale else (x.entry i).state) else (x.entry i).state) =
      if asks i = true ∧ (x.entry i).state = .failed then .stale else (x.entry i).state := by
    rw [ha, ite_and, show (!decide ((x.entry i).state = .measuring)) = decide ((x.entry i).state ≠ .measuring) by simp,
      if_pos (mem_allEntries i), ite_and]
  rw [hentry i, hstate, hw i, ite_self]

/-! ### The take as a whole (R164 to R169) -/

theorem Trimmed.engine {t : State} {gone : EntryNo → Bool} {kept : EntryNo → Entry} (h : Trimmed s t gone kept) :
    t.engine = if s.sweepGone gone then none else s.engine := by
  cases hs : s.sweepGone gone with
  | false => exact (h.goesOn hs).1
  | true =>
    obtain ⟨c, he, hc⟩ := exists_of_sweepGone hs
    exact (h.ends c he hc).1

/-- SWMARK after the clears: low in SWEEP mode where they ended a sweep (R182). -/
theorem Trimmed.swmark {t : State} {gone : EntryNo → Bool} {kept : EntryNo → Entry} (h : Trimmed s t gone kept) :
    t.swmark = if s.plan.swmarkMode = .sweep ∧ s.sweepGone gone = true then ⟨false, none, none⟩ else s.swmark := by
  cases hs : s.sweepGone gone with
  | false =>
    rw [if_neg fun hn => Bool.false_ne_true hn.2]
    exact (h.goesOn hs).2.2.2.2
  | true =>
    obtain ⟨c, he, hc⟩ := exists_of_sweepGone hs
    obtain ⟨-, -, -, -, hw⟩ := h.ends c he hc
    rw [hw]
    exact if_congr (and_iff_left rfl).symm rfl rfl

/-- The subject of a sweep that goes on through the clears keeps its entry. -/
theorem keptEntry_of_goesOn {c : Context} {cleared : EntryNo → Bool} (he : s.engine = some c)
    (hg : s.sweepGone (fun i => cleared i || !s.plan.inScope i) = false) :
    s.keptEntry cleared c.subject = s.entry c.subject := by
  rw [sweepGone_of_running _ he] at hg
  obtain ⟨hc, hs⟩ := Bool.or_eq_false_iff.1 hg
  unfold State.keptEntry
  rw [hc, he]
  simp only [Bool.false_eq_true, if_false, true_and]
  rw [if_neg]
  simpa using hs

/-- The entries that QUEUE ALL asks for after the clears, under plan `p`. -/
def Plan.asksFor (p : Plan) (e : EntryNo → Entry) (i : EntryNo) : Bool :=
  p.actions.queueAll && p.inScope i && decide ((e i).state ≠ .measuring)

/-- The entries whose request QUEUE ALL hears beside the queue `q`, in map order. -/
def Plan.asking (p : Plan) (e : EntryNo → Entry) (q : List QueueRec) : List EntryNo :=
  (List.finRange 128).filter fun i => p.asksFor e i && !(q.map (·.entry)).contains i

/-- The actions of a take: QUEUE ALL, where the action set holds it, then HOLD and RELEASE (R18, R168). -/
theorem applyActions_requests (x : State) (hw : ∀ i, (x.entry i).wanted = none)
    (hm : ∀ c, x.engine = some c → (x.entry c.subject).state = .measuring) {e : EntryNo → Entry} (he : x.entry = e) :
    ∃ q v, x.applyActions =
        { x with queue := q, entries := v, planHold := planHoldAfter x.plan.actions x.planHold } ∧
      q = x.queue ++ ((x.plan.asking e x.queue).take (16 - x.queue.length)).map (fun i => ⟨i, .plan⟩) ∧
      ∀ i, v[i] = { e i with
        state := if x.plan.asksFor e i = true ∧ (e i).state = .failed then .stale else (e i).state
        wanted := if i ∈ (x.plan.asking e x.queue).drop (16 - x.queue.length) then some .plan else none } := by
  subst he
  unfold State.applyActions
  dsimp only
  cases hq : x.plan.actions.queueAll with
  | true =>
    have hasks (i : EntryNo) : x.plan.asksFor x.entry i =
        (x.plan.inScope i && decide ((x.entry i).state ≠ .measuring)) := by
      unfold Plan.asksFor; rw [hq, Bool.true_and]
    obtain ⟨⟨q, v, hf⟩, hqueue, hentry⟩ := queueAll_requests x hw hm hasks
    rw [hf] at hqueue hentry
    rw [if_pos rfl, hf]
    exact ⟨q, v, rfl, hqueue, hentry⟩
  | false =>
    have hasks (i : EntryNo) : x.plan.asksFor x.entry i = false := by
      unfold Plan.asksFor; rw [hq, Bool.false_and, Bool.false_and]
    have hnone : x.plan.asking x.entry x.queue = [] :=
      List.filter_eq_nil_iff.2 fun i _ => by rw [hasks, Bool.false_and]; exact Bool.false_ne_true
    rw [hnone, if_neg Bool.false_ne_true]
    refine ⟨x.queue, x.entries, rfl, by simp, fun i => ?_⟩
    rw [hasks, if_neg (fun h => Bool.false_ne_true h.1), if_neg (by simp), ← hw i]
    rfl

/-- The take of a plan under the hold condition: the clears, the actions and the level of a changed SWMARK mode, with no
look (R164 to R169, R182). -/
theorem takePlan_of_held (x : State) (p : Plan) {cleared : EntryNo → Bool} (hw : ∀ i, (x.entry i).wanted = none)
    (hm : ∀ c, x.engine = some c → (x.entry c.subject).state = .measuring)
    (hc : ∀ i, cleared i = (redefines x.plan p (zoneOf i) || p.actions.clearMap))
    (hh : x.holdLine.asserted = true ∨ planHoldAfter p.actions x.planHold = true) :
    ∃ y q v, Trimmed { x with plan := p } y (fun i => cleared i || !p.inScope i)
        (State.keptEntry { x with plan := p } cleared) ∧
      x.takePlan p = { y with
        queue := q, entries := v, planHold := planHoldAfter p.actions x.planHold
        swmark := y.swmarkForMode x.plan.swmarkMode } ∧
      q = y.queue ++ ((p.asking y.entry y.queue).take (16 - y.queue.length)).map (fun i => ⟨i, .plan⟩) ∧
      ∀ i, v[i] = { y.entry i with
        state := if p.asksFor y.entry i = true ∧ (y.entry i).state = .failed then .stale else (y.entry i).state
        wanted := if i ∈ (p.asking y.entry y.queue).drop (16 - y.queue.length) then some .plan else none } := by
  have hclears := clears_trimmed { x with plan := p } x.plan hw hc
  unfold State.takePlan
  dsimp only
  generalize hy : ((State.redefineZones { x with plan := p } x.plan).applyScope).applyClearMap = y at hclears
  obtain ⟨_, _, _, _, _, _, _, _, _, _, hf⟩ := hclears.frame
  have hyp : y.plan = p := by rw [hf]
  have hyh : y.planHold = x.planHold := by rw [hf]
  have hyl : y.holdLine = x.holdLine := by rw [hf]
  have hyw (i : EntryNo) : (y.entry i).wanted = none := by
    rw [hclears.entries]
    unfold State.keptEntry
    cases x.engine with
    | none => dsimp only; split; exacts [rfl, hw i]
    | some c => dsimp only; split_ifs; exacts [rfl, (ended_wanted _ _ _).trans (hw i), hw i]
  have hym (c : Context) (he : y.engine = some c) : (y.entry c.subject).state = .measuring := by
    have hengine := hclears.engine
    rw [he] at hengine
    by_cases hg : State.sweepGone { x with plan := p } (fun i => cleared i || !p.inScope i) = true
    · rw [if_pos hg] at hengine; cases hengine
    · rw [if_neg hg] at hengine
      rw [hclears.entries, keptEntry_of_goesOn hengine.symm (by simpa using hg)]
      exact hm c hengine.symm
  obtain ⟨q, v, ha, hq, hv⟩ := applyActions_requests y hyw hym rfl
  rw [hyp] at ha hq hv
  rw [hyh] at ha
  refine ⟨y, q, v, hclears, ?_, hq, hv⟩
  rw [ha]
  refine (look_of_held _ _ ?_).trans ?_
  · show (y.holdLine.asserted || planHoldAfter p.actions x.planHold) = true
    rw [hyl]
    exact Bool.or_eq_true_iff.2 hh
  · rw [← hyp]
    rfl

theorem sweepLetIn_of_held (hh : s.holdOn = true) : s.sweepLetIn = s := by
  have hready : s.sweepReady = false := sweepReady_of_held s hh
  unfold State.sweepLetIn
  split
  · rw [hready]; exact if_neg Bool.false_ne_true
  · rfl

/-- SWMARK when a plan's mode takes effect (R169, R182). -/
theorem swmarkForMode_eq (s : State) (old : SwmarkMode) : s.swmarkForMode old =
    if s.plan.swmarkMode ≠ old then ⟨decide (s.plan.swmarkMode = .sweep) && s.engine.isSome, none, none⟩ else s.swmark := by
  unfold State.swmarkForMode
  by_cases h : old = s.plan.swmarkMode
  · rw [if_pos h, if_neg (not_not.2 h.symm)]
  · rw [if_neg h, if_pos (Ne.symm h)]
    cases s.plan.swmarkMode <;> rfl

/-- A complete copy that is judged TAKEN is taken with its event recorded (R158, R163). -/
theorem judgeCopy_taken (s : State) {p : Plan} {clamped : Bool} (hc : s.copy.complete = true)
    (hj : judge s.copy.bytes = .taken p clamped) : s.judgeCopy = State.takePlan
      { s with copy := {}, planEvent := ⟨p.number, if clamped then .takenClamped else .taken, none⟩ } p := by
  unfold State.judgeCopy
  dsimp only
  rw [if_pos hc, hj]
  cases clamped <;> rfl

/-- Settles O32. -/
theorem takenPlanRedefinesItsZones : Obligations.TakenPlanRedefinesItsZones := by
  intro t k s b place p clamped hs hp hd ha hcomplete hj hw hm planHold hh redefined cleared ended kept left asks asking
  have hjudged : (s.advance t).watchCompletion b k = (s.advance t).judgeCopy := by
    unfold State.watchCompletion; rw [hd]
  rw [judgeCopy_taken (s.advance t) hcomplete hj] at hjudged
  generalize hx : ({ s.advance t with
    copy := {}, planEvent := ⟨p.number, if clamped then .takenClamped else .taken, none⟩ } : State) = x at hjudged
  have hplan : x.plan = s.plan := by rw [← hx]; rfl
  have hcleared (i : EntryNo) : cleared i = (redefines x.plan p (zoneOf i) || p.actions.clearMap) := by
    rw [hplan, Bool.eq_iff_iff]
    simp only [cleared, redefined, redefines, Bool.or_eq_true, decide_eq_true_eq, or_assoc]
  obtain ⟨y, q, v, hy, htake, hq, hv⟩ := takePlan_of_held x p (cleared := cleared) (by rw [← hx]; exact hw)
    (by rw [← hx]; exact hm) hcleared (by rw [← hx]; exact hh)
  generalize hz : ({ x with plan := p } : State) = z at hy
  have hzs : z = { s.advance t with
      copy := {}, planEvent := ⟨p.number, if clamped then .takenClamped else .taken, none⟩, plan := p } := by
    rw [← hz, ← hx]
  have hzplan : z.plan = p := by rw [hzs]
  have hzengine : z.engine = s.engine := by rw [hzs]; rfl
  have hzentry : z.entry = s.entry := by rw [hzs]; rfl
  have hkept : y.entry = kept := by
    funext i
    rw [hy.entries]
    unfold State.keptEntry
    rw [hzplan, hzengine, hzentry]
    rfl
  have hleft : y.queue = left := by
    rw [hy.queue, hzs]
    refine List.filter_congr fun r _ => ?_
    rw [Bool.not_or, Bool.not_not]
  have hended : z.sweepGone (fun i => cleared i || !p.inScope i) = ended :=
    sweepGone_of_same hzengine _
  rw [hkept, hleft] at hq hv
  have hyengine : y.engine = if ended then none else s.engine := by rw [hy.engine, hended, hzengine]
  obtain ⟨_, _, _, _, _, _, _, _, _, _, hf⟩ := hy.frame
  have hframe : y.plan = p ∧ y.copy = {} ∧ y.planEvent = ⟨p.number, if clamped then .takenClamped else .taken, none⟩ ∧
      y.monitors = s.monitors ∧ y.geometry = s.geometry ∧ y.holdLine = s.holdLine := by
    rw [hf, hzs]; exact ⟨rfl, rfl, rfl, rfl, rfl, rfl⟩
  obtain ⟨hyplan, hcopy, hevent, hmonitors, hgeometry, hline⟩ := hframe
  have hhold : planHoldAfter p.actions x.planHold = planHold := by rw [← hx]; rfl
  have hmarker : y.swmarkForMode x.plan.swmarkMode =
      if p.swmarkMode ≠ s.plan.swmarkMode then ⟨decide (p.swmarkMode = .sweep) && s.engine.isSome && !ended, none, none⟩
      else if p.swmarkMode = .sweep ∧ ended = true then ⟨false, none, none⟩ else s.swmark := by
    rw [swmarkForMode_eq, hyplan, hplan, hyengine]
    refine if_congr Iff.rfl ?_ (hy.swmark.trans ?_)
    · by_cases hn : ended = true <;> simp [hn]
    · rw [hended, hzs]
      rfl
  refine ⟨_, exec_benchTaskCompletion t k hs hp ha (.inr (.inr ⟨place, hd⟩)), ?_⟩
  rw [hjudged, htake, releaseBench_eq, sweepLetIn_of_held]
  · refine ⟨hyplan, hhold, hcopy, hevent, rfl, hq, hv, fun hn => ?_, fun c he hg => ?_, ?_, hmonitors, hgeometry, hmarker⟩
    · obtain ⟨e, l, n, x, -⟩ := hy.goesOn (hended.trans hn)
      rw [hzs] at e l n x
      exact ⟨e, l, n, x⟩
    · have hgone : (cleared c.subject || !p.inScope c.subject) = true := by
        rw [← hg, ← hended, sweepGone_of_running _ (hzengine.trans he)]
      obtain ⟨e, n, l, x, -⟩ := hy.ends c (hzengine.trans he) hgone
      rw [hzs] at n l x
      exact ⟨e, n, l, x⟩
    · exact hy.curve.trans (by rw [hzs]; rfl)
  · show (y.holdLine.asserted || planHoldAfter p.actions x.planHold) = true
    rw [hline, hhold]
    exact Bool.or_eq_true_iff.2 hh

end Sys2Proof.Machine
end
